-- ==== Sys2Proof/Word.lean ====
section
/-! DEFINITION. The word types of the block: only widths the spec fixes for every configuration. -/

namespace Sys2Proof

/-- A 16-bit command word (R91). -/
abbrev CmdWord := BitVec 16

/-- A 64-bit operand or response bus (R90). -/
abbrev Bus := BitVec 64

/-- A 32-bit phase, delta, transmit-queue word or lane of the vector operand (R13, R43, R90). -/
abbrev Word32 := BitVec 32

/-- A time value, `TB` = 64 bits (R6, R13). -/
abbrev Time := BitVec 64

/-- A 4-bit button identity (R250). -/
abbrev Button := BitVec 4

/-- The 8-bit instance field of a command word (R91). -/
abbrev Inst := BitVec 8

end Sys2Proof
end

