-- ==== Sys2Proof/Syntax.lean ====
section
/-! DEFINITION. The commands of the block (R98), one constructor per row of the opcode map, and the command tuple of
the command port (R90). -/

namespace Sys2Proof

/-- A command, without its operand buses. `inst` is the instance field; the units KP, MIX, I2S and SYS have one
instance and no field (R94). -/
inductive Instr where
  | oscTick (inst : Inst)
  | oscSetFreq (inst : Inst)
  | oscSetDelta (inst : Inst)
  | oscTickMod (inst : Inst)
  | oscSaw (inst : Inst)
  | oscSquare (inst : Inst)
  | oscSine (inst : Inst)
  | oscRead (inst : Inst)
  | gfSample (inst : Inst)
  | gfRead (inst : Inst)
  | qdSample (inst : Inst)
  | qdRead (inst : Inst)
  | kpScanStep
  | kpGetEvent
  | kpRead
  | adsrFeed (inst : Inst)
  | adsrTick (inst : Inst)
  | adsrApply (inst : Inst)
  | adsrRead (inst : Inst)
  | opTick (inst : Inst)
  | opFeedEvent (inst : Inst)
  | opSetInput (inst : Inst)
  | opSaw (inst : Inst)
  | opSquare (inst : Inst)
  | opSine (inst : Inst)
  | opRead (inst : Inst)
  | mixMix
  | i2sIsWritable
  | i2sWrite
  | i2sWriteBlocking
  | i2sWriteMono
  | i2sWriteMonoBlocking
  | i2sStatus
  | sysStatus
deriving DecidableEq, Repr

/-- The tuple `(CMD, A, B, V)` the host puts on the command port (R90). Lane `i` of `V` is `v[i]`; a lane the list
does not reach is driven with 0, so every list stands for exactly one vector of K lanes (log 5). -/
structure Command where
  cmd : CmdWord
  a : Bus
  b : Bus
  v : List Word32
deriving DecidableEq, Repr

end Sys2Proof
end

