-- ==== Sys2Proof/Decode.lean ====
section
/-! DEFINITION. The decoder of command words (R91, R93, R98, R99) and, after it, the encoder. The decoder reads the
format alone: that the instance exists under the configuration is R99's third condition, checked where the command is
performed (Machine/Ops.lean `onInstance`). -/

namespace Sys2Proof

/-- Why a command word stands for no command (R99). -/
inductive DecodeError where
  /-- `unit` is 0x8 to 0xE -/
  | reservedUnit
  /-- `op` is not listed for its `unit` -/
  | unlistedOp
  /-- `inst` is not 0 for a unit with one instance -/
  | noSuchInstance
deriving DecidableEq, Repr

/-- The field `unit`, bits 15:12 (R91). -/
def unitField (w : CmdWord) : BitVec 4 := w.extractLsb' 12 4

/-- The field `op`, bits 11:8 (R91). -/
def opField (w : CmdWord) : BitVec 4 := w.extractLsb' 8 4

/-- The field `inst`, bits 7:0 (R91). -/
def instField (w : CmdWord) : Inst := w.extractLsb' 0 8

/-- A command of a unit with one instance: only `inst = 0` selects it (R94). -/
def single (inst : Inst) (i : Instr) : Except DecodeError Instr :=
  if inst = 0 then .ok i else .error .noSuchInstance

/-- The commands of unit 0x0, OSC (R98). -/
def decodeOsc (op : Nat) (inst : Inst) : Except DecodeError Instr :=
  match op with
  | 0 => .ok (.oscTick inst)
  | 1 => .ok (.oscSetFreq inst)
  | 2 => .ok (.oscSetDelta inst)
  | 3 => .ok (.oscTickMod inst)
  | 4 => .ok (.oscSaw inst)
  | 5 => .ok (.oscSquare inst)
  | 6 => .ok (.oscSine inst)
  | 7 => .ok (.oscRead inst)
  | _ => .error .unlistedOp

/-- The commands of unit 0x1, GF (R98). -/
def decodeGf (op : Nat) (inst : Inst) : Except DecodeError Instr :=
  match op with
  | 0 => .ok (.gfSample inst)
  | 1 => .ok (.gfRead inst)
  | _ => .error .unlistedOp

/-- The commands of unit 0x2, QD (R98). -/
def decodeQd (op : Nat) (inst : Inst) : Except DecodeError Instr :=
  match op with
  | 0 => .ok (.qdSample inst)
  | 1 => .ok (.qdRead inst)
  | _ => .error .unlistedOp

/-- The commands of unit 0x3, KP (R98). -/
def decodeKp (op : Nat) (inst : Inst) : Except DecodeError Instr :=
  match op with
  | 0 => single inst .kpScanStep
  | 1 => single inst .kpGetEvent
  | 2 => single inst .kpRead
  | _ => .error .unlistedOp

/-- The commands of unit 0x4, ADSR (R98). -/
def decodeAdsr (op : Nat) (inst : Inst) : Except DecodeError Instr :=
  match op with
  | 0 => .ok (.adsrFeed inst)
  | 1 => .ok (.adsrTick inst)
  | 2 => .ok (.adsrApply inst)
  | 3 => .ok (.adsrRead inst)
  | _ => .error .unlistedOp

/-- The commands of unit 0x5, OP (R98). -/
def decodeOp (op : Nat) (inst : Inst) : Except DecodeError Instr :=
  match op with
  | 0 => .ok (.opTick inst)
  | 1 => .ok (.opFeedEvent inst)
  | 2 => .ok (.opSetInput inst)
  | 3 => .ok (.opSaw inst)
  | 4 => .ok (.opSquare inst)
  | 5 => .ok (.opSine inst)
  | 6 => .ok (.opRead inst)
  | _ => .error .unlistedOp

/-- The commands of unit 0x6, MIX (R98). -/
def decodeMix (op : Nat) (inst : Inst) : Except DecodeError Instr :=
  match op with
  | 0 => single inst .mixMix
  | _ => .error .unlistedOp

/-- The commands of unit 0x7, I2S (R98). -/
def decodeI2s (op : Nat) (inst : Inst) : Except DecodeError Instr :=
  match op with
  | 0 => single inst .i2sIsWritable
  | 1 => single inst .i2sWrite
  | 2 => single inst .i2sWriteBlocking
  | 3 => single inst .i2sWriteMono
  | 4 => single inst .i2sWriteMonoBlocking
  | 5 => single inst .i2sStatus
  | _ => .error .unlistedOp

/-- The commands of unit 0xF, SYS (R98). -/
def decodeSys (op : Nat) (inst : Inst) : Except DecodeError Instr :=
  match op with
  | 0 => single inst .sysStatus
  | _ => .error .unlistedOp

/-- The decoder: a command word to its command, or the reason it is illegal by its format (R98, R99, R100). -/
def decode (w : CmdWord) : Except DecodeError Instr :=
  match (unitField w).toNat with
  | 0x0 => decodeOsc (opField w).toNat (instField w)
  | 0x1 => decodeGf (opField w).toNat (instField w)
  | 0x2 => decodeQd (opField w).toNat (instField w)
  | 0x3 => decodeKp (opField w).toNat (instField w)
  | 0x4 => decodeAdsr (opField w).toNat (instField w)
  | 0x5 => decodeOp (opField w).toNat (instField w)
  | 0x6 => decodeMix (opField w).toNat (instField w)
  | 0x7 => decodeI2s (opField w).toNat (instField w)
  | 0xF => decodeSys (opField w).toNat (instField w)
  | _ => .error .reservedUnit

/-- A command word from its three fields (R91). -/
def word (unit op : BitVec 4) (inst : Inst) : CmdWord := unit ++ op ++ inst

/-- The encoder: the command word of a command, from the opcode map (R98). -/
def encode : Instr → CmdWord
  | .oscTick i => word 0x0 0x0 i
  | .oscSetFreq i => word 0x0 0x1 i
  | .oscSetDelta i => word 0x0 0x2 i
  | .oscTickMod i => word 0x0 0x3 i
  | .oscSaw i => word 0x0 0x4 i
  | .oscSquare i => word 0x0 0x5 i
  | .oscSine i => word 0x0 0x6 i
  | .oscRead i => word 0x0 0x7 i
  | .gfSample i => word 0x1 0x0 i
  | .gfRead i => word 0x1 0x1 i
  | .qdSample i => word 0x2 0x0 i
  | .qdRead i => word 0x2 0x1 i
  | .kpScanStep => word 0x3 0x0 0
  | .kpGetEvent => word 0x3 0x1 0
  | .kpRead => word 0x3 0x2 0
  | .adsrFeed i => word 0x4 0x0 i
  | .adsrTick i => word 0x4 0x1 i
  | .adsrApply i => word 0x4 0x2 i
  | .adsrRead i => word 0x4 0x3 i
  | .opTick i => word 0x5 0x0 i
  | .opFeedEvent i => word 0x5 0x1 i
  | .opSetInput i => word 0x5 0x2 i
  | .opSaw i => word 0x5 0x3 i
  | .opSquare i => word 0x5 0x4 i
  | .opSine i => word 0x5 0x5 i
  | .opRead i => word 0x5 0x6 i
  | .mixMix => word 0x6 0x0 0
  | .i2sIsWritable => word 0x7 0x0 0
  | .i2sWrite => word 0x7 0x1 0
  | .i2sWriteBlocking => word 0x7 0x2 0
  | .i2sWriteMono => word 0x7 0x3 0
  | .i2sWriteMonoBlocking => word 0x7 0x4 0
  | .i2sStatus => word 0x7 0x5 0
  | .sysStatus => word 0xF 0x0 0

/-- The 16 bits of an opcode-table word given as a number of which the low `nbits` bits count; a command word is 16
bits and moved whole (R72, R91). -/
def tableWord (nbits w : Nat) : CmdWord := BitVec.ofNat 16 (w % 2 ^ nbits)

/-- What the decoder reads from an opcode-table word; none for a word of more than 16 bits, since there is no other
length (R91), and none where the decoder refuses. -/
def decodeTableWord (nbits w : Nat) : Option Instr :=
  if w % 2 ^ nbits < 2 ^ 16 then (decode (tableWord nbits w)).toOption else none

end Sys2Proof
end

