-- ==== Sys2Proof/Config.lean ====
section
/-! DEFINITION. The configuration record of R6: what an implementation fixes. Values are held as the numbers the
spec writes, so that an illegal configuration (R8, R451) can be written down and is rejected by the check. The
derived parameters, the weights, the check and the reference record are in Machine/Configuration.lean. -/

namespace Sys2Proof

/-- An ADSR profile: three durations and a sustain level (R6, R40). -/
structure Profile where
  attack : Nat
  decay : Nat
  sustain : Nat
  release : Nat
deriving DecidableEq, Repr

/-- Four pin numbers, `[0..3]` (R6 `ROW_PINS`, `COL_PINS`). -/
structure Pins where
  p0 : Nat
  p1 : Nat
  p2 : Nat
  p3 : Nat
deriving DecidableEq, Repr

/-- The configuration record (R6), under the spec's parameter names. `WS_LEAD` is 0 for `false`, 1 for `true`. -/
structure Config where
  /-- `W`, sample width -/
  w : Nat
  /-- `RATE`, sample rate in Hz -/
  rate : Nat
  /-- `L`, sine table length -/
  l : Nat
  sineTable : List Int
  freqTable : List Nat
  /-- `FFB`, fractional bits of the OSC.SET_FREQ operand -/
  ffb : Nat
  /-- `RFB`, fractional bits of a ratio -/
  rfb : Nat
  modScale : Nat
  /-- `N`, glitch filter width -/
  n : Nat
  nOsc : Nat
  nGf : Nat
  nQd : Nat
  nAdsr : Nat
  nOp : Nat
  profileAdsr : List Profile
  profileOp : List Profile
  ratioOp : List Nat
  /-- `K`, mixer input count -/
  k : Nat
  levels : List Int
  /-- `Q`, transmit queue depth -/
  q : Nat
  wsLead : Bool
  /-- `CPB`, sequencer steps per bit -/
  cpb : Nat
  sysClkHz : Nat
  pinBclk : Nat
  pinWs : Nat
  pinData : Nat
  rowPins : Pins
  colPins : Pins
  /-- `KP_SETTLE`, timing only (R462) -/
  kpSettle : Nat
  /-- `TB`, width of a time value -/
  tb : Nat
  seqAvailable : Bool
deriving DecidableEq, Repr

end Sys2Proof
end

