-- ==== Sys2Proof/Machine/Configuration.lean ====
section
/-! DEFINITION. What follows from a configuration record: derived parameters (R6), the mixer weights (R311), the
configuration check (R451), the default sine table as a property (R7), the timing formulas (R337, R470) and the
reference record (95_test_vectors.md section 2). -/

namespace Sys2Proof

/-- `EB`, envelope bits (R6). -/
def Config.eb (c : Config) : Nat := c.w - 1

/-- `SMAX`, the greatest sample (R6). -/
def Config.smax (c : Config) : Int := 2 ^ (c.w - 1) - 1

/-- `SMIN`, the least sample (R6). -/
def Config.smin (c : Config) : Int := -(2 ^ (c.w - 1))

/-- `EMAX`, the greatest envelope value (R6). -/
def Config.emax (c : Config) : Nat := 2 ^ (c.w - 1) - 1

/-- `span = 2^32 / L`, the phase width of one sine table interval (R206). -/
def Config.span (c : Config) : Nat := 2 ^ 32 / c.l

/-- A sample value of the configuration (R13). -/
abbrev Config.IsSample (c : Config) (x : Int) : Prop := c.smin ≤ x ∧ x ≤ c.smax

/-! ### Mixer weights (R311) -/

/-- How many indices stand before `i` in the order of R311: remainders descending, equal remainders by lower index
first. -/
def remainderRank (r : List Int) (i : Nat) : Nat :=
  ((List.range r.length).filter fun k =>
    decide (r.getD i 0 < r.getD k 0 ∨ (r.getD k 0 = r.getD i 0 ∧ k < i))).length

/-- Largest-remainder weights that share `smax` among the levels (R311): the first `D` indices of the order get one
more than their quotient. -/
def largestRemainder (smax : Int) (levels : List Int) : List Int :=
  let total := levels.sum
  let q := levels.map fun x => smax * x / total
  let r := levels.map fun x => smax * x % total
  let d := smax - q.sum
  (List.range levels.length).map fun i =>
    if (remainderRank r i : Int) < d then q.getD i 0 + 1 else q.getD i 0

/-- `WEIGHT[0..K-1]` (R310, R311). -/
def Config.weights (c : Config) : List Int := largestRemainder c.smax c.levels

/-! ### The configuration check (R451) -/

/-- `RATE` is one of the supported sample rates (R451 code 1). -/
def Config.rateLegal (c : Config) : Bool :=
  [8000, 16000, 32000, 44100, 48000, 88200, 96000].contains c.rate

/-- `W` is one of the supported widths (R451 code 2). -/
def Config.widthLegal (c : Config) : Bool := [16, 24, 32].contains c.w

/-- The I2S pins are consecutive in the order bit-clock, word-select, data (R78, R451 code 3). -/
def Config.i2sPinsAdjacent (c : Config) : Bool :=
  decide (c.pinWs = c.pinBclk + 1) && decide (c.pinData = c.pinBclk + 2)

/-- The four pins as a list, `[0..3]`. -/
def Pins.toList (p : Pins) : List Nat := [p.p0, p.p1, p.p2, p.p3]

/-- The eight keypad pins are all distinct (R451 code 4). -/
def Config.keypadPinsDistinct (c : Config) : Bool :=
  decide (c.rowPins.toList ++ c.colPins.toList).Nodup

/-- `K >= 1`, every level positive and no weight 0 (R310, R311, R451 code 5). -/
def Config.mixerLegal (c : Config) : Bool :=
  decide (1 ≤ c.k) && c.levels.all (fun x => decide (0 < x)) && c.weights.all (fun x => decide (x ≠ 0))

/-- `L = 2^k` with `2 <= k <= 16`, and the table has `L` entries, each a sample (R451 code 7). -/
def Config.sineLegal (c : Config) : Bool :=
  (List.range 17).any (fun k => decide (2 ≤ k ∧ c.l = 2 ^ k)) && decide (c.sineTable.length = c.l) &&
    c.sineTable.all (fun y => decide (c.IsSample y))

/-- A profile within its legal values (R6). -/
def Config.profileLegal (c : Config) (p : Profile) : Bool :=
  decide (p.attack < 2 ^ 32) && decide (p.decay < 2 ^ 32) && decide (p.release < 2 ^ 32) &&
    decide (p.sustain ≤ c.emax)

/-- Every parameter that codes 1 to 9 do not check is within its legal values (R6, R451 code 10). A list given per
instance or per input has as many entries as there are (log 11). -/
def Config.restLegal (c : Config) : Bool :=
  decide (c.freqTable.length = 16) && c.freqTable.all (fun d => decide (d < 2 ^ 32)) &&
  decide (c.ffb ≤ 32) && decide (c.rfb ≤ 32) && decide (c.modScale ≤ 127) &&
  decide (c.nOsc ≤ 256) && decide (c.nGf ≤ 256) && decide (c.nQd ≤ 256) && decide (c.nAdsr ≤ 256) &&
  decide (c.nOp ≤ 256) &&
  decide (c.profileAdsr.length = c.nAdsr) && c.profileAdsr.all c.profileLegal &&
  decide (c.profileOp.length = c.nOp) && c.profileOp.all c.profileLegal &&
  decide (c.ratioOp.length = c.nOp) && c.ratioOp.all (fun r => decide (r < 2 ^ 32)) &&
  decide (c.k ≤ 256) && decide (c.levels.length = c.k) && c.levels.all (fun x => decide (x < 2 ^ 32)) &&
  decide (c.cpb = 2) && decide (0 < c.sysClkHz) && decide (c.tb = 64) && decide (c.kpSettle < 2 ^ 64)

/-- The configuration check at reset: the lowest code whose condition holds, 0 when none does (R451). -/
def Config.errorCode (c : Config) : BitVec 8 :=
  if !c.rateLegal then 1
  else if !c.widthLegal then 2
  else if !c.i2sPinsAdjacent then 3
  else if !c.keypadPinsDistinct then 4
  else if !c.mixerLegal then 5
  else if !c.seqAvailable then 6
  else if !c.sineLegal then 7
  else if !decide (1 ≤ c.n ∧ c.n ≤ 32) then 8
  else if !decide (2 ≤ c.q ∧ c.q ≤ 255) then 9
  else if !c.restLegal then 10
  else 0

/-- A legal configuration (R8). -/
abbrev Config.Legal (c : Config) : Prop := c.errorCode = 0

/-! ### The default sine table (R7), as a property of a table -/

/-- `y` is the real number `x` truncated toward zero (R7). -/
def IsTruncated (x : ℝ) (y : Int) : Prop :=
  (0 ≤ x → (y : ℝ) ≤ x ∧ x < (y : ℝ) + 1) ∧ (x < 0 → x ≤ (y : ℝ) ∧ (y : ℝ) - 1 < x)

/-- The table is the spec default of R7: `SINE_TABLE[i] = trunc(SMAX * sin(2*pi*i / L))`. -/
def Config.HasDefaultSineTable (c : Config) : Prop :=
  c.sineTable.length = c.l ∧ ∀ i, i < c.l →
    IsTruncated ((c.smax : ℝ) * Real.sin (2 * Real.pi * (i : ℝ) / (c.l : ℝ))) (c.sineTable.getD i 0)

/-- The spec default of `MOD_SCALE`, `(W - 1) + RFB` (R6, R203). -/
def Config.defaultModScale (c : Config) : Nat := (c.w - 1) + c.rfb

/-! ### Timing, which no rule of the machine uses (R337, R470) -/

/-- The sequencer's clock divider as numerator and denominator: `SYS_CLK_HZ / (RATE * 2 * W * CPB)` (R337). -/
def Config.clockDivider (c : Config) : Nat × Nat := (c.sysClkHz, c.rate * 2 * c.w * c.cpb)

/-- The bit clock in Hz, `RATE * 2 * W` (R337). -/
def Config.bitClockHz (c : Config) : Nat := c.rate * 2 * c.w

/-- Sequencer steps in one frame, `2 * W * CPB` (R334). -/
def Config.frameSteps (c : Config) : Nat := 2 * c.w * c.cpb

/-! ### The reference configuration -/

/-- `SINE_TABLE` at W = 16, L = 32 (R7). -/
def referenceSine : List Int :=
  [0, 6392, 12539, 18204, 23169, 27244, 30272, 32137, 32767, 32137, 30272, 27244, 23169, 18204, 12539, 6392,
   0, -6392, -12539, -18204, -23169, -27244, -30272, -32137, -32767, -32137, -30272, -27244, -23169, -18204,
   -12539, -6392]

/-- Table FT (95_test_vectors.md section 2). -/
def referenceFreq : List Nat :=
  [0, 29494574, 31248413, 33106540, 35075157, 37160835, 39370533, 41711627, 44191929, 46819718, 49603763,
   52553357, 55678342, 58989149, 62496826, 66213081]

/-- The reference configuration (R6, 95_test_vectors.md section 2). `SYS_CLK_HZ` and `KP_SETTLE`, which enter no
rule and have no reference value, are the model's choice (log 12). -/
def Config.reference : Config where
  w := 16
  rate := 48000
  l := 32
  sineTable := referenceSine
  freqTable := referenceFreq
  ffb := 16
  rfb := 16
  modScale := 31
  n := 4
  nOsc := 1
  nGf := 1
  nQd := 1
  nAdsr := 1
  nOp := 2
  profileAdsr := [⟨0, 200000, 0x1FFF, 100000⟩]
  profileOp := [⟨1000, 1000, 16384, 2000⟩, ⟨1000, 1000, 16384, 2000⟩]
  ratioOp := [0x00010000, 0x00010000]
  k := 2
  levels := [1, 1]
  q := 4
  wsLead := false
  cpb := 2
  sysClkHz := 125000000
  pinBclk := 0
  pinWs := 1
  pinData := 2
  rowPins := ⟨10, 11, 12, 13⟩
  colPins := ⟨14, 15, 16, 17⟩
  kpSettle := 0
  tb := 64
  seqAvailable := true

end Sys2Proof
end

