-- ==== Sys2Proof/Machine/State.lean ====
section
/-! DEFINITION. The architectural state (10_state.md), the ways a step can stop, and the state after reset (R450).
A register whose width the spec fixes is a bit vector of that width; one whose width depends on the configuration
(W, N, EB) is an Int or Nat whose range is `State.wf` (Safety.lean, log 7). -/

namespace Sys2Proof.Machine

/-- An oscillator (R33). -/
structure Osc where
  phase : Word32
  delta : Word32
deriving DecidableEq, Repr

/-- A glitch filter: the last N samples, newest in bit 0, and the debounced state (R34). -/
structure Filter where
  sr : Nat
  state : Bool
deriving DecidableEq, Repr

/-- A quadrature decoder: its two channel filters (R35). -/
structure Quadrature where
  a : Filter
  b : Filter
deriving DecidableEq, Repr

/-- The keypad scanner (R36). `lastRel` is `none` when `last_rel` is invalid. -/
structure Keypad where
  row : BitVec 2
  pressed : BitVec 16
  /-- oldest first -/
  stack : List Button
  lastRel : Option Button
  changed : Bool
  stamp : Time
deriving DecidableEq, Repr

/-- The tagged state of an envelope generator (R39). -/
inductive EnvState where
  | off
  | attack (start attackEnd decayEnd : Time)
  | decay (start stop : Time)
  | sustain
  | release (startTime : Time) (startValue : Nat) (stop : Time)
deriving DecidableEq, Repr

/-- An envelope generator (R39). -/
structure Adsr where
  st : EnvState
  env : Nat
deriving DecidableEq, Repr

/-- An operator (R41). -/
structure Operator where
  osc : Osc
  adsr : Adsr
  input : Int
deriving DecidableEq, Repr

/-- The sequencer and the levels it drives (R52). `ch` is false for left, true for right. -/
structure Sequencer where
  osr : Word32
  ch : Bool
  j : BitVec 5
  half : Bool
  loaded : Bool
  bclk : Bool
  ws : Bool
  data : Bool
deriving DecidableEq, Repr

/-- How far the command on the port is (R76, R90): no command; issued, or holding; the first push of a mono write
done and the second still to come (R326, R327). -/
inductive Phase where
  | idle
  | active
  | second
deriving DecidableEq, Repr

/-- Who moves next: one of the two agents (R30), or an outside reset (R450; log 2, log 6). -/
inductive Turn where
  | host
  | sequencer
  | reset
deriving DecidableEq, Repr

/-- The whole machine. -/
structure State where
  /-- the configuration, fixed at elaboration and written by no step (R6, R32; log 1) -/
  cfg : Config
  osc : List Osc
  gf : List Filter
  qd : List Quadrature
  kp : Keypad
  adsr : List Adsr
  op : List Operator
  /-- the transmit queue, oldest first (R43) -/
  txq : List Word32
  /-- `TXOVER` (R44) -/
  txover : Bool
  seq : Sequencer
  /-- `ILLEGAL` (R54) -/
  illegal : Bool
  /-- `CFG_ERR` (R54) -/
  cfgErr : BitVec 8
  /-- `HALTED` (R54) -/
  halted : Bool
  /-- the command word on the port (R90) -/
  cmd : CmdWord
  a : Bus
  b : Bus
  v : List Word32
  r0 : Bus
  r1 : Bus
  phase : Phase
  /-- the commands the host has still to issue, in order (log 3) -/
  todo : List Command
  /-- who moves next, in order (log 2) -/
  turns : List Turn
deriving DecidableEq, Repr

/-- Why a command stops the machine: an obligation of the host is violated and the spec gives the block no behaviour
(R402). -/
inductive Fault where
  /-- raised by ADSR.TICK and OP.TICK when the time operand is earlier than the start of the envelope state it
  evaluates (R274, R402 (a)). Safe: nothing is concluded about such a command. -/
  | timeBeforeStateStart
  /-- raised by ADSR.FEED and OP.FEED_EVENT when a deadline would be `2^TB` or more (R272, R402 (b)). Safe: nothing
  is concluded about such a command. -/
  | deadlineOverflow
deriving DecidableEq, Repr

/-- Why a command has no meaning in the model. -/
inductive Refusal where
  /-- an instruction of the opcode table that has no meaning yet. No arm of `exec` raises it. Safe. -/
  | notModelled (mnemonic : String)
deriving DecidableEq, Repr

/-- The outcome of a step. -/
abbrev Out := Host.Outcome State Fault Refusal

/-! ### Reset (R450) -/

/-- An oscillator after reset (R33, R450). -/
def Osc.reset : Osc := ⟨0, 0⟩

/-- A glitch filter after reset (R34, R450). -/
def Filter.reset : Filter := ⟨0, false⟩

/-- A quadrature decoder after reset (R450). -/
def Quadrature.reset : Quadrature := ⟨Filter.reset, Filter.reset⟩

/-- The keypad scanner after reset (R36, R450). -/
def Keypad.reset : Keypad := ⟨0, 0, [], none, false, 0⟩

/-- An envelope generator after reset (R39, R450). -/
def Adsr.reset : Adsr := ⟨.off, 0⟩

/-- An operator after reset (R41, R450). -/
def Operator.reset : Operator := ⟨Osc.reset, Adsr.reset, 0⟩

/-- The sequencer and its pins after reset (R52, R450). -/
def Sequencer.reset : Sequencer := ⟨0, false, 0, false, false, false, false, false⟩

/-- The block right after reset under a configuration (R450, R451). The port, the responses and the two input lists
are the model's own (log 2, log 3, log 4). -/
def State.resetWith (c : Config) : State where
  cfg := c
  osc := List.replicate c.nOsc Osc.reset
  gf := List.replicate c.nGf Filter.reset
  qd := List.replicate c.nQd Quadrature.reset
  kp := Keypad.reset
  adsr := List.replicate c.nAdsr Adsr.reset
  op := List.replicate c.nOp Operator.reset
  txq := []
  txover := false
  seq := Sequencer.reset
  illegal := false
  cfgErr := c.errorCode
  halted := c.errorCode != 0
  cmd := 0
  a := 0
  b := 0
  v := []
  r0 := 0
  r1 := 0
  phase := .idle
  todo := []
  turns := []

/-- The machine right after reset, elaborated at the reference configuration (log 1). -/
def State.reset : State := State.resetWith Config.reference

end Sys2Proof.Machine
end

