-- ==== Sys2Proof/Machine/Operands.lean ====
section
/-! DEFINITION. Conversions (R11), operand decoding (R95), the event layout (R96) and the layout of responses (R92,
R97). -/

namespace Sys2Proof.Machine

/-! ### Conversions (R11) -/

/-- `wrap32(v) = v mod 2^32`. -/
def wrap32 (v : Int) : Word32 := BitVec.ofInt 32 v

/-- `u_n(v) = v mod 2^n`, the n-bit two's complement pattern of `v`. -/
def uN (n : Nat) (v : Int) : Nat := (v % 2 ^ n).toNat

/-- `s_n(u)`: `u - 2^n` if bit `n-1` of `u` is 1, else `u`. -/
def sN (n u : Nat) : Int := if u / 2 ^ (n - 1) % 2 = 1 then (u : Int) - 2 ^ n else u

/-- `asr(v, n) = floor(v / 2^n)`. -/
def asr (v : Int) (n : Nat) : Int := v / 2 ^ n

/-- The interpolation of R206 and R270: `y0 + tdiv(x * (y1 - y0), n)`. -/
def interpolate (x n : Nat) (y0 y1 : Int) : Int := y0 + Int.tdiv ((x : Int) * (y1 - y0)) (n : Int)

/-! ### Responses (R92, R97) -/

/-- `sext_64` of a sample (R92). -/
def sext64 (v : Int) : Bus := BitVec.ofInt 64 v

/-- `zext_64` (R92). -/
def zext64 (v : Nat) : Bus := BitVec.ofNat 64 v

/-- The value `v` placed in bits `hi:lo` (R97). -/
def field (hi lo v : Nat) : Nat := v % 2 ^ (hi + 1 - lo) * 2 ^ lo

/-- A response word put together from fields that do not overlap; bits in no field are 0 (R97). -/
def layout (fields : List Nat) : Bus := BitVec.ofNat 64 fields.sum

/-! ### Operands (R95) -/

/-- A sample operand: `s_W(X[W-1:0])`. -/
def sampleOperand (c : Config) (x : Bus) : Int := sN c.w (x.toNat % 2 ^ c.w)

/-- A delta, ratio or frequency operand: `X[31:0]`. -/
def wordOperand (x : Bus) : Word32 := x.extractLsb' 0 32

/-- A time operand: `X[63:0]`. -/
def timeOperand (x : Bus) : Time := x

/-- Bit `k` of a bit operand. -/
def bitOperand (x : Bus) (k : Nat) : Bool := x.getLsbD k

/-- The column levels of KP.SCAN_STEP: `X[3:0]`. -/
def columnOperand (x : Bus) : BitVec 4 := x.extractLsb' 0 4

/-- The sample on lane `i` of the vector operand: `s_W(V[i])`. -/
def laneOperand (c : Config) (v : List Word32) (i : Nat) : Int := sN c.w ((v.getD i 0).toNat % 2 ^ c.w)

/-! ### Events (R96) -/

/-- A keypad event is a press or a release (R96 `kind`). -/
inductive EventKind where
  | pressed
  | released
deriving DecidableEq, Repr

/-- The event layout's fields (R96). -/
structure Event where
  valid : Bool
  kind : EventKind
  button : Button
deriving DecidableEq, Repr

/-- The event on a bus; bits 3:2 and 63:8 are ignored (R96). -/
def eventOperand (x : Bus) : Event where
  valid := x.getLsbD 0
  kind := if x.getLsbD 1 then .released else .pressed
  button := x.extractLsb' 4 4

/-- The code of an event kind (R96). -/
def EventKind.code : EventKind → Nat
  | .pressed => 0
  | .released => 1

/-- The event as a response (R96). -/
def eventResponse (e : Event) : Bus :=
  layout [field 0 0 e.valid.toNat, field 1 1 e.kind.code, field 7 4 e.button.toNat]

end Sys2Proof.Machine
end

