-- ==== Sys2Proof/Machine/Flags.lean ====
section
/-! DEFINITION. The derived gates and conditions (R43, R45, R53) and the pin levels (R38, R333). The sticky bits and
`KP.changed` are fields of State. -/

namespace Sys2Proof.Machine

/-- `level = |TXQ|` (R43). -/
def State.level (s : State) : Nat := s.txq.length

/-- `free = Q - level` (R43). -/
def State.free (s : State) : Nat := s.cfg.q - s.level

/-- `WRITABLE = (free >= 2)` (R45). -/
def State.writable (s : State) : Bool := decide (2 ≤ s.free)

/-- `STALLED`: the sequencer needs a word and the queue has none (R53). -/
def State.stalled (s : State) : Bool :=
  !s.seq.half && decide (s.seq.j = 0) && !s.seq.loaded && decide (s.level = 0)

/-- The sequencer is enabled: not HALTED and not STALLED (R330). -/
def State.seqEnabled (s : State) : Bool := !s.halted && !s.stalled

/-- The level row pin `r` is driven to: high for the energized row, low for the others (R38). -/
def State.rowLevel (s : State) (r : BitVec 2) : Bool := decide (r = s.kp.row)

/-- The sequencer's 2-bit side output: bit 0 is the bit clock, bit 1 word-select (R333). -/
def State.sideOutput (s : State) : BitVec 2 := BitVec.ofBool s.seq.ws ++ BitVec.ofBool s.seq.bclk

/-- The level the block drives on the pin with number `p`: that of an I2S pin (R52, R333) or of a row pin (R38); none
on a pin it does not drive. Where one number stands for several pins the first in the order of the tests wins: an I2S
pin over a keypad pin, bit-clock over word-select over data, a lower row over a higher. DESIGN CHOICE: R451 and N15 of
91_not_in_source.md leave a number shared by an I2S pin and a keypad pin unchecked and give it no level (log 22). -/
def State.pinLevel (s : State) (p : Nat) : Option Bool :=
  if p = s.cfg.pinBclk then some s.seq.bclk
  else if p = s.cfg.pinWs then some s.seq.ws
  else if p = s.cfg.pinData then some s.seq.data
  else if p = s.cfg.rowPins.p0 then some (s.rowLevel 0)
  else if p = s.cfg.rowPins.p1 then some (s.rowLevel 1)
  else if p = s.cfg.rowPins.p2 then some (s.rowLevel 2)
  else if p = s.cfg.rowPins.p3 then some (s.rowLevel 3)
  else none

end Sys2Proof.Machine
end

