-- ==== Sys2Proof/WellFormed.lean ====
section
/-! DEFINITION. Which commands are legal under a configuration beyond their format: the instance check of R94, R99. -/

namespace Sys2Proof

/-- The instance a command selects; 0 for the units with one instance (R94). -/
def Instr.inst : Instr → Inst
  | .oscTick i => i
  | .oscSetFreq i => i
  | .oscSetDelta i => i
  | .oscTickMod i => i
  | .oscSaw i => i
  | .oscSquare i => i
  | .oscSine i => i
  | .oscRead i => i
  | .gfSample i => i
  | .gfRead i => i
  | .qdSample i => i
  | .qdRead i => i
  | .kpScanStep => 0
  | .kpGetEvent => 0
  | .kpRead => 0
  | .adsrFeed i => i
  | .adsrTick i => i
  | .adsrApply i => i
  | .adsrRead i => i
  | .opTick i => i
  | .opFeedEvent i => i
  | .opSetInput i => i
  | .opSaw i => i
  | .opSquare i => i
  | .opSine i => i
  | .opRead i => i
  | .mixMix => 0
  | .i2sIsWritable => 0
  | .i2sWrite => 0
  | .i2sWriteBlocking => 0
  | .i2sWriteMono => 0
  | .i2sWriteMonoBlocking => 0
  | .i2sStatus => 0
  | .sysStatus => 0

/-- The instance count of the unit a command belongs to (R93). -/
def Instr.unitCount (c : Config) : Instr → Nat
  | .oscTick _ => c.nOsc
  | .oscSetFreq _ => c.nOsc
  | .oscSetDelta _ => c.nOsc
  | .oscTickMod _ => c.nOsc
  | .oscSaw _ => c.nOsc
  | .oscSquare _ => c.nOsc
  | .oscSine _ => c.nOsc
  | .oscRead _ => c.nOsc
  | .gfSample _ => c.nGf
  | .gfRead _ => c.nGf
  | .qdSample _ => c.nQd
  | .qdRead _ => c.nQd
  | .kpScanStep => 1
  | .kpGetEvent => 1
  | .kpRead => 1
  | .adsrFeed _ => c.nAdsr
  | .adsrTick _ => c.nAdsr
  | .adsrApply _ => c.nAdsr
  | .adsrRead _ => c.nAdsr
  | .opTick _ => c.nOp
  | .opFeedEvent _ => c.nOp
  | .opSetInput _ => c.nOp
  | .opSaw _ => c.nOp
  | .opSquare _ => c.nOp
  | .opSine _ => c.nOp
  | .opRead _ => c.nOp
  | .mixMix => 1
  | .i2sIsWritable => 1
  | .i2sWrite => 1
  | .i2sWriteBlocking => 1
  | .i2sWriteMono => 1
  | .i2sWriteMonoBlocking => 1
  | .i2sStatus => 1
  | .sysStatus => 1

/-- The instance exists (R94, the third condition of R99). -/
def Instr.wellFormed (c : Config) (i : Instr) : Bool :=
  decide (i.inst.toNat < i.unitCount c)

end Sys2Proof
end

