-- ==== Sys2Proof/Machine/Ops.lean ====
section
/-! DEFINITION. The operations the meanings share: completing a command, recording an illegal one (R400), the checks
every command passes first (R403, R405), reading and writing a unit's registers, the queue primitives (R321), putting a
command on the port, and reset. -/

namespace Sys2Proof.Machine

/-! ### Completing a command -/

/-- The command completes: it drives `R0` and `R1`, and the port is free (R92). -/
def State.respond (s : State) (r0 r1 : Bus) : State := { s with r0 := r0, r1 := r1, phase := .idle }

/-- The command completes and names no value for either bus (R92). -/
def State.done (s : State) : State := s.respond 0 0

/-- `raise IllegalCommand`: the one exception of the block. It sets the sticky bit, drives 0 and completes; it saves
nothing and diverts nothing, so there is no return from it (R400, R407). -/
def State.raiseIllegal (s : State) : State := { s with illegal := true }.done

/-- A command of a unit with one instance: while HALTED it completes with 0 and changes nothing (R403), else it
takes its own rule (R405). -/
def unlessHalted (s : State) (rule : Out) : Out := if s.halted then .next s.done else rule

/-- A command on instance `inst` of a unit with `count` instances: HALTED first, then the illegal instance, then the
command's own rule (R99, R403, R405). -/
def onInstance (count : Nat) (inst : Inst) (s : State) (rule : Out) : Out :=
  unlessHalted s (if inst.toNat < count then rule else .next s.raiseIllegal)

/-- A command word that stands for no command (R99): ignored while HALTED, else illegal (R400, R403, R405). -/
def State.rejectWord (s : State) : State := if s.halted then s.done else s.raiseIllegal

/-- A rule that may violate the host contract: the whole command faults, or completes in the state given (R402). -/
def completeOr (r : Except Fault State) : Out :=
  match r with
  | .ok s => .next s.done
  | .error f => .fault f

/-! ### The registers of the units -/

/-- `OSC[i]`. -/
def State.oscAt (s : State) (i : Inst) : Osc := s.osc.getD i.toNat Osc.reset

/-- `OSC[i] <- o`. -/
def State.setOsc (s : State) (i : Inst) (o : Osc) : State := { s with osc := s.osc.set i.toNat o }

/-- `GF[i]`. -/
def State.gfAt (s : State) (i : Inst) : Filter := s.gf.getD i.toNat Filter.reset

/-- `GF[i] <- f`. -/
def State.setGf (s : State) (i : Inst) (f : Filter) : State := { s with gf := s.gf.set i.toNat f }

/-- `QD[i]`. -/
def State.qdAt (s : State) (i : Inst) : Quadrature := s.qd.getD i.toNat Quadrature.reset

/-- `QD[i] <- d`. -/
def State.setQd (s : State) (i : Inst) (d : Quadrature) : State := { s with qd := s.qd.set i.toNat d }

/-- `KP <- k`. -/
def State.setKp (s : State) (k : Keypad) : State := { s with kp := k }

/-- `ADSR[i]`. -/
def State.adsrAt (s : State) (i : Inst) : Adsr := s.adsr.getD i.toNat Adsr.reset

/-- `ADSR[i] <- e`. -/
def State.setAdsr (s : State) (i : Inst) (e : Adsr) : State := { s with adsr := s.adsr.set i.toNat e }

/-- `OP[i]`. -/
def State.opAt (s : State) (i : Inst) : Operator := s.op.getD i.toNat Operator.reset

/-- `OP[i] <- p`. -/
def State.setOp (s : State) (i : Inst) (p : Operator) : State := { s with op := s.op.set i.toNat p }

/-- `PROFILE_ADSR[i]` (R40). -/
def State.profileAdsr (s : State) (i : Inst) : Profile := s.cfg.profileAdsr.getD i.toNat ⟨0, 0, 0, 0⟩

/-- `PROFILE_OP[i]` (R40). -/
def State.profileOp (s : State) (i : Inst) : Profile := s.cfg.profileOp.getD i.toNat ⟨0, 0, 0, 0⟩

/-- `RATIO_OP[i]` (R41). -/
def State.ratioOp (s : State) (i : Inst) : Nat := s.cfg.ratioOp.getD i.toNat 0

/-! ### The transmit queue (R321) -/

/-- `TXWORD(s) = u_32(u_W(s) * 2^(32-W))`, the left-aligned queue word of a sample (R73). -/
def txWord (c : Config) (x : Int) : Word32 := BitVec.ofNat 32 (uN c.w x * 2 ^ (32 - c.w))

/-- The queue has room for one word. -/
def State.hasRoom (s : State) : Bool := decide (s.txq.length < s.cfg.q)

/-- `Push(w)`: append, or on a full queue discard the word and set TXOVER (R321). -/
def State.push (s : State) (w : Word32) : State :=
  if s.hasRoom then { s with txq := s.txq ++ [w] } else { s with txover := true }

/-- `osr <- Pop() ; loaded <- 1`; nothing when the queue is empty, where R331 never uses it (R321). -/
def State.popToOsr (s : State) : State :=
  match s.txq with
  | [] => s
  | w :: rest => { s with txq := rest, seq := { s.seq with osr := w, loaded := true } }

/-! ### The port and reset -/

/-- The host puts a command on the port (R90). -/
def State.issue (s : State) (c : Command) (rest : List Command) : State :=
  { s with cmd := c.cmd, a := c.a, b := c.b, v := c.v, phase := .active, todo := rest }

/-- An outside reset (R450): the block is as after reset under its own configuration, a command on the port is lost,
and the host's remaining commands and the order of turns, which are not the block's, stay (log 6). -/
def State.resetBlock (s : State) : State :=
  { State.resetWith s.cfg with todo := s.todo, turns := s.turns }

end Sys2Proof.Machine
end

