-- ==== Sys2Proof/Machine/Envelope.lean ====
section
/-! DEFINITION. The ADSR envelope generator (43_adsr.md). -/

namespace Sys2Proof.Machine

/-! ### The operations, shared with the operator (44_operator.md) -/

/-- `INTERP(t, t0, t1, y0, y1)` for `t0 <= t < t1`, as an envelope value (R270). -/
def interpEnv (t t0 t1 : Time) (y0 y1 : Nat) : Nat :=
  (interpolate (t.toNat - t0.toNat) (t1.toNat - t0.toNat) (y0 : Int) (y1 : Int)).toNat

/-- The tag code of a state (R39). -/
def EnvState.code : EnvState → Nat
  | .off => 0
  | .attack _ _ _ => 1
  | .decay _ _ => 2
  | .sustain => 3
  | .release _ _ _ => 4

/-- The transition due at time `t`, if any: at most one, but Attack goes straight to Sustain when both intervals have
elapsed (R273). -/
def EnvState.advance (st : EnvState) (t : Time) : EnvState :=
  match st with
  | .attack s ae de =>
    if de.toNat ≤ t.toNat then .sustain else if ae.toNat ≤ t.toNat then .decay ae de else .attack s ae de
  | .decay s e => if e.toNat ≤ t.toNat then .sustain else .decay s e
  | .release s v e => if e.toNat ≤ t.toNat then .off else .release s v e
  | .sustain => .sustain
  | .off => .off

/-- `ENV_VALUE(st, t)`; a time before the state's start violates the host contract (R271, R274). -/
def EnvState.value (c : Config) (p : Profile) (st : EnvState) (t : Time) : Except Fault Nat :=
  match st with
  | .attack s ae _ =>
    if s.toNat ≤ t.toNat then .ok (interpEnv t s ae 0 c.emax) else .error .timeBeforeStateStart
  | .decay s e =>
    if s.toNat ≤ t.toNat then .ok (interpEnv t s e c.emax p.sustain) else .error .timeBeforeStateStart
  | .sustain => .ok p.sustain
  | .release s v e =>
    if s.toNat ≤ t.toNat then .ok (interpEnv t s e v 0) else .error .timeBeforeStateStart
  | .off => .ok 0

/-- The tick of an envelope generator: the due transition, then the value of the new state (R273). -/
def Adsr.tick (c : Config) (p : Profile) (e : Adsr) (t : Time) : Except Fault Adsr :=
  (EnvState.value c p (e.st.advance t) t).map fun v => ⟨e.st.advance t, v⟩

/-- A deadline `d` after `ts`; one of `2^TB` or more violates the host contract (R272). -/
def deadline (c : Config) (ts : Time) (d : Nat) : Except Fault Time :=
  if ts.toNat + d < 2 ^ c.tb then .ok (BitVec.ofNat 64 (ts.toNat + d)) else .error .deadlineOverflow

/-- A pressed event, from every state: Attack from the event's timestamp (R272). -/
def Adsr.press (c : Config) (p : Profile) (e : Adsr) (ts : Time) : Except Fault Adsr :=
  (deadline c ts (p.attack + p.decay)).map fun decayEnd =>
    { e with st := .attack ts (BitVec.ofNat 64 (ts.toNat + p.attack)) decayEnd }

/-- A released event: Release from the current envelope in Attack, Decay and Sustain; ignored in Off and Release
(R272). -/
def Adsr.release (c : Config) (p : Profile) (e : Adsr) (ts : Time) : Except Fault Adsr :=
  match e.st with
  | .off => .ok e
  | .release _ _ _ => .ok e
  | .attack _ _ _ => (deadline c ts p.release).map fun stop => { e with st := .release ts e.env stop }
  | .decay _ _ => (deadline c ts p.release).map fun stop => { e with st := .release ts e.env stop }
  | .sustain => (deadline c ts p.release).map fun stop => { e with st := .release ts e.env stop }

/-- Feeding an event; an absent one changes nothing (R272). -/
def Adsr.feed (c : Config) (p : Profile) (e : Adsr) (ts : Time) (ev : Event) : Except Fault Adsr :=
  if ev.valid then
    match ev.kind with
    | .pressed => e.press c p ts
    | .released => e.release c p ts
  else .ok e

/-- `APPLY_ENV(x, e) = asr(x * e, EB)` (R275). -/
def applyEnv (c : Config) (x : Int) (e : Nat) : Int := asr (x * (e : Int)) c.eb

/-! ### The commands -/

/-- ADSR.FEED (R272). -/
def execAdsrFeed (inst : Inst) (s : State) : Out :=
  onInstance s.cfg.nAdsr inst s
    (completeOr (((s.adsrAt inst).feed s.cfg (s.profileAdsr inst) (timeOperand s.a) (eventOperand s.b)).map
      (s.setAdsr inst)))

/-- ADSR.TICK (R273). -/
def execAdsrTick (inst : Inst) (s : State) : Out :=
  onInstance s.cfg.nAdsr inst s
    (completeOr (((s.adsrAt inst).tick s.cfg (s.profileAdsr inst) (timeOperand s.a)).map (s.setAdsr inst)))

/-- ADSR.APPLY (R275). -/
def execAdsrApply (inst : Inst) (s : State) : Out :=
  onInstance s.cfg.nAdsr inst s
    (.next (s.respond (sext64 (applyEnv s.cfg (sampleOperand s.cfg s.a) (s.adsrAt inst).env)) 0))

/-- ADSR.READ (R276). -/
def execAdsrRead (inst : Inst) (s : State) : Out :=
  onInstance s.cfg.nAdsr inst s
    (.next (s.respond (zext64 (s.adsrAt inst).env) (zext64 (s.adsrAt inst).st.code)))

end Sys2Proof.Machine
end

