-- ==== Sys2Proof/Machine/Oscillator.lean ====
section
/-! DEFINITION. The oscillator and the waveform samplers (40_oscillator.md). -/

namespace Sys2Proof.Machine

/-! ### The operations, shared with the operator (44_operator.md) -/

/-- The unmodulated tick (R200). -/
def Osc.tick (o : Osc) : Osc := { o with phase := wrap32 ((o.phase.toNat : Int) + o.delta.toNat) }

/-- The perturbation `asr(delta * x * ratio, MOD_SCALE)` (R203). -/
def modulation (c : Config) (o : Osc) (x : Int) (ratio : Nat) : Int :=
  asr ((o.delta.toNat : Int) * x * (ratio : Int)) c.modScale

/-- Perturb, then tick (R203). -/
def Osc.tickMod (c : Config) (o : Osc) (x : Int) (ratio : Nat) : Osc :=
  { o with phase := wrap32 ((o.phase.toNat : Int) + modulation c o x ratio + o.delta.toNat) }

/-- The delta of a frequency operand: `wrap32(floor(F * 2^(32-FFB) / RATE))` (R201). -/
def freqDelta (c : Config) (f : Word32) : Word32 := wrap32 (((f.toNat * 2 ^ (32 - c.ffb)) / c.rate : Nat) : Int)

/-- `SAW(phase) = s_W(phase[31:32-W])` (R204). -/
def saw (c : Config) (phase : Word32) : Int := sN c.w (phase.toNat / 2 ^ (32 - c.w))

/-- `SQUARE(phase, delta)` (R205). -/
def square (c : Config) (o : Osc) : Int :=
  if o.delta = 0 then 0 else if o.phase.msb then c.smin else c.smax

/-- `SINE_TABLE[i mod L]` (R206, R71). -/
def sineEntry (c : Config) (i : Nat) : Int := c.sineTable.getD (i % c.l) 0

/-- `SINE(phase)`, linear interpolation in the table (R206). -/
def sine (c : Config) (phase : Word32) : Int :=
  interpolate (phase.toNat % c.span) c.span (sineEntry c (phase.toNat / c.span))
    (sineEntry c (phase.toNat / c.span + 1))

/-- The read-back of an oscillator: delta in 63:32, phase in 31:0 (R97). -/
def oscResponse (o : Osc) : Bus := layout [field 31 0 o.phase.toNat, field 63 32 o.delta.toNat]

/-! ### The commands -/

/-- OSC.TICK (R200). -/
def execOscTick (inst : Inst) (s : State) : Out :=
  onInstance s.cfg.nOsc inst s (.next (s.setOsc inst (s.oscAt inst).tick).done)

/-- OSC.SET_FREQ (R201). -/
def execOscSetFreq (inst : Inst) (s : State) : Out :=
  onInstance s.cfg.nOsc inst s
    (.next (s.setOsc inst { s.oscAt inst with delta := freqDelta s.cfg (wordOperand s.a) }).done)

/-- OSC.SET_DELTA (R202). -/
def execOscSetDelta (inst : Inst) (s : State) : Out :=
  onInstance s.cfg.nOsc inst s (.next (s.setOsc inst { s.oscAt inst with delta := wordOperand s.a }).done)

/-- OSC.TICK_MOD (R203). -/
def execOscTickMod (inst : Inst) (s : State) : Out :=
  onInstance s.cfg.nOsc inst s
    (.next (s.setOsc inst
      ((s.oscAt inst).tickMod s.cfg (sampleOperand s.cfg s.a) (wordOperand s.b).toNat)).done)

/-- OSC.SAW (R204). -/
def execOscSaw (inst : Inst) (s : State) : Out :=
  onInstance s.cfg.nOsc inst s (.next (s.respond (sext64 (saw s.cfg (s.oscAt inst).phase)) 0))

/-- OSC.SQUARE (R205). -/
def execOscSquare (inst : Inst) (s : State) : Out :=
  onInstance s.cfg.nOsc inst s (.next (s.respond (sext64 (square s.cfg (s.oscAt inst))) 0))

/-- OSC.SINE (R206). -/
def execOscSine (inst : Inst) (s : State) : Out :=
  onInstance s.cfg.nOsc inst s (.next (s.respond (sext64 (sine s.cfg (s.oscAt inst).phase)) 0))

/-- OSC.READ (R207). -/
def execOscRead (inst : Inst) (s : State) : Out :=
  onInstance s.cfg.nOsc inst s (.next (s.respond (oscResponse (s.oscAt inst)) 0))

end Sys2Proof.Machine
end

