-- ==== Sys2Proof/Machine/FmOperator.lean ====
section
/-! DEFINITION. The FM operator (44_operator.md). -/

namespace Sys2Proof.Machine

/-- `FREQ_TABLE[b]` (R71, R291). -/
def freqEntry (c : Config) (b : Button) : Word32 := BitVec.ofNat 32 (c.freqTable.getD b.toNat 0)

/-- The operator's tick: modulate and advance the oscillator, then advance the envelope; a host-contract fault of the
envelope part faults the whole (R290). -/
def Operator.tick (c : Config) (p : Profile) (ratio : Nat) (o : Operator) (t : Time) : Except Fault Operator :=
  (o.adsr.tick c p t).map fun e => { o with osc := o.osc.tickMod c o.input ratio, adsr := e }

/-- Feeding an event to an operator: the envelope, and for any present event the delta of its button; an absent event
changes nothing (R291). -/
def Operator.feed (c : Config) (p : Profile) (o : Operator) (ts : Time) (ev : Event) : Except Fault Operator :=
  if ev.valid then
    (o.adsr.feed c p ts ev).map fun e => { o with osc := { o.osc with delta := freqEntry c ev.button }, adsr := e }
  else .ok o

/-- OP.TICK (R290). -/
def execOpTick (inst : Inst) (s : State) : Out :=
  onInstance s.cfg.nOp inst s
    (completeOr (((s.opAt inst).tick s.cfg (s.profileOp inst) (s.ratioOp inst) (timeOperand s.a)).map
      (s.setOp inst)))

/-- OP.FEED_EVENT (R291). -/
def execOpFeedEvent (inst : Inst) (s : State) : Out :=
  onInstance s.cfg.nOp inst s
    (completeOr (((s.opAt inst).feed s.cfg (s.profileOp inst) (timeOperand s.a) (eventOperand s.b)).map
      (s.setOp inst)))

/-- OP.SET_INPUT (R292). -/
def execOpSetInput (inst : Inst) (s : State) : Out :=
  onInstance s.cfg.nOp inst s
    (.next (s.setOp inst { s.opAt inst with input := sampleOperand s.cfg s.a }).done)

/-- OP.SAW (R293). -/
def execOpSaw (inst : Inst) (s : State) : Out :=
  let p := s.opAt inst
  onInstance s.cfg.nOp inst s (.next (s.respond (sext64 (applyEnv s.cfg (saw s.cfg p.osc.phase) p.adsr.env)) 0))

/-- OP.SQUARE (R294). -/
def execOpSquare (inst : Inst) (s : State) : Out :=
  let p := s.opAt inst
  onInstance s.cfg.nOp inst s (.next (s.respond (sext64 (applyEnv s.cfg (square s.cfg p.osc) p.adsr.env)) 0))

/-- OP.SINE (R295). -/
def execOpSine (inst : Inst) (s : State) : Out :=
  let p := s.opAt inst
  onInstance s.cfg.nOp inst s (.next (s.respond (sext64 (applyEnv s.cfg (sine s.cfg p.osc.phase) p.adsr.env)) 0))

/-- OP.READ (R296). -/
def execOpRead (inst : Inst) (s : State) : Out :=
  let p := s.opAt inst
  onInstance s.cfg.nOp inst s
    (.next (s.respond (oscResponse p.osc) (layout [field 31 0 p.adsr.env, field 34 32 p.adsr.st.code])))

end Sys2Proof.Machine
end

