-- ==== Sys2Proof/Machine/GlitchQuadrature.lean ====
section
/-! DEFINITION. The glitch filter and the quadrature decoder (41_glitch_quadrature.md). -/

namespace Sys2Proof.Machine

/-- What a filter reports for a sample (R229). -/
inductive Edge where
  | none
  | toClear
  | toSet
deriving DecidableEq, Repr

/-- The result code of GF.SAMPLE (R103). -/
def Edge.code : Edge → Nat
  | .none => 0b00
  | .toClear => 0b01
  | .toSet => 0b11

/-- `GF_STEP`: shift the sample in at bit 0; all ones while clear is a transition to set, all zeros while set a
transition to clear (R229). -/
def gfStep (c : Config) (f : Filter) (x : Bool) : Filter × Edge :=
  let sr := (f.sr * 2 + x.toNat) % 2 ^ c.n
  if sr = 2 ^ c.n - 1 ∧ f.state = false then (⟨sr, true⟩, .toSet)
  else if sr = 0 ∧ f.state = true then (⟨sr, false⟩, .toClear)
  else (⟨sr, f.state⟩, .none)

/-- What a quadrature decoder reports for a sample (R233). -/
inductive Rotation where
  | none
  | increment
  | decrement
deriving DecidableEq, Repr

/-- The result code of QD.SAMPLE (R103). -/
def Rotation.code : Rotation → Nat
  | .none => 0b00
  | .increment => 0b01
  | .decrement => 0b10

/-- The rotation a sample shows, from the channels' states after it and their transitions: both changing cancel; a
change of A compares unequal to B for increment, a change of B equal to A (R233). -/
def rotation (a b : Filter) (ea eb : Edge) : Rotation :=
  if ea ≠ .none ∧ eb ≠ .none then .none
  else if ea ≠ .none then (if a.state ≠ b.state then .increment else .decrement)
  else if eb ≠ .none then (if b.state = a.state then .increment else .decrement)
  else .none

/-- One sample of both channels: both filters always advance (R233). -/
def qdStep (c : Config) (d : Quadrature) (xa xb : Bool) : Quadrature × Rotation :=
  let ra := gfStep c d.a xa
  let rb := gfStep c d.b xb
  (⟨ra.1, rb.1⟩, rotation ra.1 rb.1 ra.2 rb.2)

/-- GF.SAMPLE (R230). -/
def execGfSample (inst : Inst) (s : State) : Out :=
  let r := gfStep s.cfg (s.gfAt inst) (bitOperand s.a 0)
  onInstance s.cfg.nGf inst s (.next ((s.setGf inst r.1).respond (zext64 r.2.code) 0))

/-- GF.READ: state at bit 32, sr in bits N-1:0 (R232). -/
def execGfRead (inst : Inst) (s : State) : Out :=
  let f := s.gfAt inst
  onInstance s.cfg.nGf inst s
    (.next (s.respond (layout [field (s.cfg.n - 1) 0 f.sr, field 32 32 f.state.toNat]) 0))

/-- QD.SAMPLE (R233). -/
def execQdSample (inst : Inst) (s : State) : Out :=
  let r := qdStep s.cfg (s.qdAt inst) (bitOperand s.a 0) (bitOperand s.a 1)
  onInstance s.cfg.nQd inst s (.next ((s.setQd inst r.1).respond (zext64 r.2.code) 0))

/-- QD.READ (R235). -/
def execQdRead (inst : Inst) (s : State) : Out :=
  let d := s.qdAt inst
  onInstance s.cfg.nQd inst s
    (.next (s.respond (layout [field 0 0 d.a.state.toNat, field 1 1 d.b.state.toNat])
      (layout [field 31 0 d.a.sr, field 63 32 d.b.sr])))

end Sys2Proof.Machine
end

