-- ==== Sys2Proof/Machine/I2sDriver.lean ====
section
/-! DEFINITION. The host commands of the I2S output driver (46_i2s.md section 2). -/

namespace Sys2Proof.Machine

/-- The queue word of the command's sample operand: `TXWORD(s_W(A[W-1:0]))` (R323). -/
def State.operandWord (s : State) : Word32 := txWord s.cfg (sampleOperand s.cfg s.a)

/-- One of the two steps of a mono write that has pushed: the first leaves the second to come, the second completes
the command (R326, R327). -/
def State.afterMonoPush (s : State) : State :=
  if s.phase = .second then s.done else { s with phase := .second }

/-- The driver's read-back on R0 (R97, R328). -/
def driverResponse (s : State) : Bus :=
  layout [field 0 0 s.writable.toNat, field 15 8 s.level, field 16 16 s.txover.toNat, field 17 17 s.stalled.toNat]

/-- The sequencer's read-back on R1 (R97, R328). -/
def sequencerResponse (q : Sequencer) : Bus :=
  layout [field 0 0 q.bclk.toNat, field 1 1 q.ws.toNat, field 2 2 q.data.toNat, field 3 3 q.ch.toNat,
    field 12 8 q.j.toNat, field 13 13 q.half.toNat, field 14 14 q.loaded.toNat]

/-- I2S.IS_WRITABLE (R322). -/
def execI2sIsWritable (s : State) : Out := unlessHalted s (.next (s.respond (zext64 s.writable.toNat) 0))

/-- I2S.WRITE (R323). -/
def execI2sWrite (s : State) : Out := unlessHalted s (.next (s.push s.operandWord).done)

/-- I2S.WRITE_BLOCKING: it holds, with no effect, while the queue is full (R325, log 8). -/
def execI2sWriteBlocking (s : State) : Out :=
  unlessHalted s (.next (if s.hasRoom then (s.push s.operandWord).done else s))

/-- I2S.WRITE_MONO, one of its two host steps (R326). -/
def execI2sWriteMono (s : State) : Out := unlessHalted s (.next (s.push s.operandWord).afterMonoPush)

/-- I2S.WRITE_MONO_BLOCKING, one of its two host steps; each holds while the queue is full (R327, log 8). -/
def execI2sWriteMonoBlocking (s : State) : Out :=
  unlessHalted s (.next (if s.hasRoom then (s.push s.operandWord).afterMonoPush else s))

/-- I2S.STATUS (R328). -/
def execI2sStatus (s : State) : Out :=
  unlessHalted s (.next (s.respond (driverResponse s) (sequencerResponse s.seq)))

end Sys2Proof.Machine
end

