-- ==== Sys2Proof/Machine/KeypadScanner.lean ====
section
/-! DEFINITION. The keypad matrix scanner (42_keypad.md). -/

namespace Sys2Proof.Machine

/-- `BID(r, c) = 4 * r + c` (R250). -/
def buttonId (row : BitVec 2) (col : Nat) : Button := BitVec.ofNat 4 (4 * row.toNat + col)

/-- `pressed[b]` (R36). -/
def Keypad.isPressed (k : Keypad) (b : Button) : Bool := k.pressed.getLsbD b.toNat

/-- A press of `b`: append to the stack; `last_rel` is cleared when it is the same button (R252). -/
def Keypad.press (k : Keypad) (b : Button) : Keypad :=
  { k with
    pressed := k.pressed ||| (1#16 <<< b.toNat)
    stack := k.stack ++ [b]
    lastRel := if k.lastRel = some b then none else k.lastRel }

/-- A release of `b`: remove it from the stack, the order of the others kept, and note it as last released
(R252). -/
def Keypad.release (k : Keypad) (b : Button) : Keypad :=
  { k with
    pressed := k.pressed &&& ~~~(1#16 <<< b.toNat)
    stack := k.stack.erase b
    lastRel := some b }

/-- One column of a scan: nothing if it is as tracked, else record the change, stamp it and raise `changed`
(R252). -/
def Keypad.scanColumn (t : Time) (cols : BitVec 4) (k : Keypad) (col : Nat) : Keypad :=
  let b := buttonId k.row col
  if cols.getLsbD col = k.isPressed b then k
  else { (if cols.getLsbD col then k.press b else k.release b) with stamp := t, changed := true }

/-- The columns of the energized row in increasing order (R252). -/
def Keypad.scanRow (t : Time) (cols : BitVec 4) (k : Keypad) : Keypad :=
  [0, 1, 2, 3].foldl (Keypad.scanColumn t cols) k

/-- A whole scan step: the energized row, then the next row is energized (R252). -/
def Keypad.scanStep (t : Time) (cols : BitVec 4) (k : Keypad) : Keypad :=
  { Keypad.scanRow t cols k with row := k.row + 1 }

/-- The event KP.GET_EVENT surfaces: none unless `changed`; the top of the stack as pressed; else the last released
button as released; else none (R253). -/
def Keypad.event (k : Keypad) : Option Event :=
  if k.changed then
    match k.stack.getLast? with
    | some b => some ⟨true, .pressed, b⟩
    | none => k.lastRel.map fun b => ⟨true, .released, b⟩
  else none

/-- The stack as a word, 4 bits an entry, the oldest in bits 3:0 (R255). -/
def stackWord : List Button → Nat
  | [] => 0
  | b :: rest => b.toNat + 2 ^ 4 * stackWord rest

/-- The scanner's read-back on R0 (R97, R255). -/
def keypadResponse (k : Keypad) : Bus :=
  layout [field 15 0 k.pressed.toNat, field 17 16 k.row.toNat, field 22 18 k.stack.length,
    field 23 23 k.lastRel.isSome.toNat, field 27 24 (k.lastRel.getD 0).toNat, field 28 28 k.changed.toNat]

/-- KP.SCAN_STEP (R252). -/
def execKpScanStep (s : State) : Out :=
  unlessHalted s (.next (s.setKp (s.kp.scanStep (timeOperand s.a) (columnOperand s.b))).done)

/-- KP.GET_EVENT (R253). -/
def execKpGetEvent (s : State) : Out :=
  let k := { s.kp with changed := false }
  unlessHalted s (.next (match s.kp.event with
    | some e => (s.setKp k).respond s.kp.stamp (eventResponse e)
    | none => (s.setKp k).done))

/-- KP.READ (R255). -/
def execKpRead (s : State) : Out :=
  unlessHalted s (.next (s.respond (keypadResponse s.kp) (zext64 (stackWord s.kp.stack))))

end Sys2Proof.Machine
end

