-- ==== Sys2Proof/Machine/Mixer.lean ====
section
/-! DEFINITION. The fixed-point mixer (45_mixer.md). -/

namespace Sys2Proof.Machine

/-- `WEIGHT[i]` (R310). -/
def weightAt (c : Config) (i : Nat) : Int := c.weights.getD i 0

/-- The accumulator: the exact sum of the K weighted samples (R312). -/
def mixSum (c : Config) (x : Nat → Int) : Int := ((List.range c.k).map fun i => x i * weightAt c i).sum

/-- The mixed sample: the accumulator shifted right by `W - 1` (R312). -/
def mix (c : Config) (x : Nat → Int) : Int := asr (mixSum c x) (c.w - 1)

/-- MIX.MIX (R312). -/
def execMixMix (s : State) : Out :=
  unlessHalted s (.next (s.respond (sext64 (mix s.cfg (laneOperand s.cfg s.v))) 0))

end Sys2Proof.Machine
end

