-- ==== Sys2Proof/Machine/SystemStatus.lean ====
section
/-! DEFINITION. The system status unit (47_system.md). -/

namespace Sys2Proof.Machine

/-- The read-back of the error state (R97, R350). -/
def systemResponse (s : State) : Bus :=
  layout [field 0 0 s.illegal.toNat, field 1 1 s.halted.toNat, field 15 8 s.cfgErr.toNat]

/-- SYS.STATUS, the one command performed while HALTED (R350, R403). -/
def execSysStatus (s : State) : Out := .next (s.respond (systemResponse s) 0)

end Sys2Proof.Machine
end

