-- ==== Sys2Proof/Machine/Dispatch.lean ====
section
/-! DEFINITION. One arm per command (R98). -/

namespace Sys2Proof.Machine

def exec (i : Instr) (s : State) : Host.Outcome State Fault Refusal :=
  match i with
  | .oscTick inst => Sys2Proof.Machine.execOscTick inst s
  | .oscSetFreq inst => Sys2Proof.Machine.execOscSetFreq inst s
  | .oscSetDelta inst => Sys2Proof.Machine.execOscSetDelta inst s
  | .oscTickMod inst => Sys2Proof.Machine.execOscTickMod inst s
  | .oscSaw inst => Sys2Proof.Machine.execOscSaw inst s
  | .oscSquare inst => Sys2Proof.Machine.execOscSquare inst s
  | .oscSine inst => Sys2Proof.Machine.execOscSine inst s
  | .oscRead inst => Sys2Proof.Machine.execOscRead inst s
  | .gfSample inst => Sys2Proof.Machine.execGfSample inst s
  | .gfRead inst => Sys2Proof.Machine.execGfRead inst s
  | .qdSample inst => Sys2Proof.Machine.execQdSample inst s
  | .qdRead inst => Sys2Proof.Machine.execQdRead inst s
  | .kpScanStep => Sys2Proof.Machine.execKpScanStep s
  | .kpGetEvent => Sys2Proof.Machine.execKpGetEvent s
  | .kpRead => Sys2Proof.Machine.execKpRead s
  | .adsrFeed inst => Sys2Proof.Machine.execAdsrFeed inst s
  | .adsrTick inst => Sys2Proof.Machine.execAdsrTick inst s
  | .adsrApply inst => Sys2Proof.Machine.execAdsrApply inst s
  | .adsrRead inst => Sys2Proof.Machine.execAdsrRead inst s
  | .opTick inst => Sys2Proof.Machine.execOpTick inst s
  | .opFeedEvent inst => Sys2Proof.Machine.execOpFeedEvent inst s
  | .opSetInput inst => Sys2Proof.Machine.execOpSetInput inst s
  | .opSaw inst => Sys2Proof.Machine.execOpSaw inst s
  | .opSquare inst => Sys2Proof.Machine.execOpSquare inst s
  | .opSine inst => Sys2Proof.Machine.execOpSine inst s
  | .opRead inst => Sys2Proof.Machine.execOpRead inst s
  | .mixMix => Sys2Proof.Machine.execMixMix s
  | .i2sIsWritable => Sys2Proof.Machine.execI2sIsWritable s
  | .i2sWrite => Sys2Proof.Machine.execI2sWrite s
  | .i2sWriteBlocking => Sys2Proof.Machine.execI2sWriteBlocking s
  | .i2sWriteMono => Sys2Proof.Machine.execI2sWriteMono s
  | .i2sWriteMonoBlocking => Sys2Proof.Machine.execI2sWriteMonoBlocking s
  | .i2sStatus => Sys2Proof.Machine.execI2sStatus s
  | .sysStatus => Sys2Proof.Machine.execSysStatus s

end Sys2Proof.Machine
end

