-- ==== Sys2Proof/Machine/SequencerStep.lean ====
section
/-! DEFINITION. The sequencer's step (46_i2s.md section 3). -/

namespace Sys2Proof.Machine

/-- `WSF(ch, j)` (R332). -/
def wsLevel (c : Config) (ch : Bool) (j : BitVec 5) : Bool :=
  if c.wsLead ∧ j.toNat = c.w - 1 then !ch else ch

/-- At the start of a word not yet loaded, pop it into `osr` (R331). -/
def State.loadWord (s : State) : State := if s.seq.j = 0 ∧ s.seq.loaded = false then s.popToOsr else s

/-- The bit-clock-low half: drive the bit and word-select (R331). -/
def State.lowHalf (s : State) : State :=
  { s with seq := { s.seq with
      bclk := false
      data := s.seq.osr.getLsbD (31 - s.seq.j.toNat)
      ws := wsLevel s.cfg s.seq.ch s.seq.j
      half := true } }

/-- The bit-clock-high half: the receiver samples DATA, and the bit index moves on (R331). -/
def State.highHalf (s : State) : State :=
  if s.seq.j.toNat = s.cfg.w - 1 then
    { s with seq := { s.seq with bclk := true, half := false, j := 0, ch := !s.seq.ch, loaded := false } }
  else
    { s with seq := { s.seq with bclk := true, half := false, j := s.seq.j + 1 } }

/-- `SEQ_STEP` (R331). -/
def State.seqStep (s : State) : State := if s.seq.half then s.highHalf else s.loadWord.lowHalf

/-- A turn of the sequencer: its step when it is enabled, else nothing moves (R330). -/
def State.sequencerTurn (s : State) : State := if s.seqEnabled then s.seqStep else s

end Sys2Proof.Machine
end

