-- ==== Sys2Proof/Machine/HostTurn.lean ====
section
/-! DEFINITION. A turn of the host: one host step of the command on the port (R76, R80, R90). -/

namespace Sys2Proof.Machine

/-- One host step of the command on the port: the decoded command's, or the treatment of a word that stands for no
command (R99, R405). -/
def State.perform (s : State) : Out :=
  match decode s.cmd with
  | .ok i => exec i s
  | .error _ => .next s.rejectWord

/-- A turn of the host: it goes on with the command on the port, or puts the next one there; with neither, nothing
moves (R80, R90). -/
def State.hostTurn (s : State) : Out :=
  match s.phase with
  | .idle =>
    match s.todo with
    | [] => .next s
    | c :: rest => (s.issue c rest).perform
  | .active => s.perform
  | .second => s.perform

end Sys2Proof.Machine
end

