-- ==== Sys2Proof/Machine/Step.lean ====
section
/-! DEFINITION. One step of the machine, and how a command is placed where the step takes it. -/

namespace Sys2Proof.Machine

/-- One step: whoever's turn it is moves (R30, R81). With no turn left nothing moves (log 2). -/
def step (s : State) : Host.Outcome State Fault Refusal :=
  match s.turns with
  | [] => .next s
  | .host :: rest => { s with turns := rest }.hostTurn
  | .sequencer :: rest => .next { s with turns := rest }.sequencerTurn
  | .reset :: rest => .next { s with turns := rest }.resetBlock

/-- The state in which the host's next turn, which comes next, issues the command word with all operand buses 0
(log 3). -/
def State.withFetchWord (s : State) (nbits w : Nat) : State :=
  { s with
    phase := .idle
    todo := ⟨tableWord nbits w, 0, 0, []⟩ :: s.todo
    turns := .host :: s.turns }

end Sys2Proof.Machine
end

