-- ==== Sys2Proof/Machine/Schedule.lean ====
section
/-! DEFINITION. Schedules without end, and the weak fairness of the sequencer (R470). `State.turns` gives the next turns
of a run as far as they are known; here a schedule gives the turn of every step (log 23). -/

namespace Sys2Proof.Machine

/-- The outcome of `n` steps from `s`, the turn of step `k` being `turn k`; a stop stays. -/
def runAlong (turn : Nat → Turn) (s : State) : Nat → Out
  | 0 => .next s
  | n + 1 =>
    match runAlong turn s n with
    | .next t => step { t with turns := [turn n] }
    | .fault f => .fault f
    | .refused r => .refused r

/-- Weak fairness (R470): a sequencer that is enabled from some step on, without a break, takes a later step. -/
def WeaklyFair (turn : Nat → Turn) (s : State) : Prop :=
  ∀ n, (∀ m, n ≤ m → ∃ t, runAlong turn s m = .next t ∧ t.seqEnabled = true) → ∃ m, n ≤ m ∧ turn m = .sequencer

end Sys2Proof.Machine
end

