-- ==== Sys2Proof/Safety.lean ====
section
/-! DEFINITION. The terms statements use: the well-formed states (the ranges of the configuration-dependent registers
and the invariants of R37, R39, R43, R52, R54), safe runs, what a receiver on the serial pins collects, and R99's
conditions on a command word written out from its text. -/

namespace Sys2Proof.Machine

/-! ### Well-formed states -/

/-- `sr` is an N-bit value (R34). -/
abbrev Filter.wf (c : Config) (f : Filter) : Prop := f.sr < 2 ^ c.n

/-- Both channel filters of a decoder are N bits wide (R35). -/
abbrev Quadrature.wf (c : Config) (d : Quadrature) : Prop := d.a.wf c ∧ d.b.wf c

/-- The keypad invariants (a), (b), (c) of R37. -/
abbrev Keypad.wf (k : Keypad) : Prop :=
  (∀ b : Button, b ∈ k.stack ↔ k.isPressed b = true) ∧ k.stack.Nodup ∧
    (∀ b : Button, k.lastRel = some b → k.isPressed b = false)

/-- A raised `changed` has something to report, so the third branch of KP.GET_EVENT is not reached (R253). -/
abbrev Keypad.reportable (k : Keypad) : Prop := k.changed = true → k.stack ≠ [] ∨ k.lastRel ≠ none

/-- The times of a state are in order and a captured value is an envelope value (R39, R272). -/
def EnvState.wf (c : Config) : EnvState → Bool
  | .off => true
  | .attack s ae de => decide (s.toNat ≤ ae.toNat ∧ ae.toNat ≤ de.toNat)
  | .decay s e => decide (s.toNat ≤ e.toNat)
  | .sustain => true
  | .release s v e => decide (s.toNat ≤ e.toNat ∧ v ≤ c.emax)

/-- `env` is an envelope value (R13, R39). -/
abbrev Adsr.wf (c : Config) (e : Adsr) : Prop := e.st.wf c = true ∧ e.env ≤ c.emax

/-- The operator's envelope is well-formed and its input is a sample (R41). -/
abbrev Operator.wf (c : Config) (o : Operator) : Prop := o.adsr.wf c ∧ c.IsSample o.input

/-- Only the top W bits of a queue word may be set (R73). -/
abbrev LeftAligned (c : Config) (w : Word32) : Prop := w.toNat % 2 ^ (32 - c.w) = 0

/-- The bit index is in `0..W-1`, a word is loaded exactly when its transmission has begun, and the shift register is
left-aligned (R52, R331). -/
abbrev Sequencer.wf (c : Config) (q : Sequencer) : Prop :=
  q.j.toNat ≤ c.w - 1 ∧ (q.loaded = false ↔ (q.j = 0 ∧ q.half = false)) ∧ LeftAligned c q.osr

/-- Every unit has its instance count of copies (R6, R33, R34, R35, R39, R41). -/
abbrev State.Sized (s : State) : Prop :=
  s.osc.length = s.cfg.nOsc ∧ s.gf.length = s.cfg.nGf ∧ s.qd.length = s.cfg.nQd ∧
    s.adsr.length = s.cfg.nAdsr ∧ s.op.length = s.cfg.nOp

/-- `CFG_ERR` is the code of the configuration and `HALTED = (CFG_ERR != 0)` (R54, R451). -/
abbrev State.ConfigReported (s : State) : Prop :=
  s.cfgErr = s.cfg.errorCode ∧ (s.halted = true ↔ s.cfgErr ≠ 0)

/-- The word on the port is a mono write, the only commands of two steps (R76). -/
def State.monoOnPort (s : State) : Bool :=
  match decode s.cmd with
  | .ok .i2sWriteMono => true
  | .ok .i2sWriteMonoBlocking => true
  | _ => false

/-- The well-formed states: what every reachable state satisfies. -/
abbrev State.wf (s : State) : Prop :=
  s.ConfigReported ∧ s.Sized ∧ (∀ f ∈ s.gf, f.wf s.cfg) ∧ (∀ d ∈ s.qd, d.wf s.cfg) ∧
    s.kp.wf ∧ s.kp.reportable ∧ (∀ e ∈ s.adsr, e.wf s.cfg) ∧ (∀ o ∈ s.op, o.wf s.cfg) ∧
    s.txq.length ≤ s.cfg.q ∧ (∀ w ∈ s.txq, LeftAligned s.cfg w) ∧ s.seq.wf s.cfg ∧
    (s.phase = .second → s.monoOnPort = true)

/-! ### Runs -/

/-- `k` steps from `s` meet no fault and no refusal. -/
def SafeFor (k : Nat) (s : State) : Prop := ∃ t, Host.Core.run Sys2Proof.core k s = .next t

/-- `n` turns of the sequencer with no host turn between. -/
def seqRun : Nat → State → State
  | 0, s => s
  | n + 1, s => seqRun n s.sequencerTurn

/-- The bits a receiver samples on the W rising bit-clock edges of the word whose transmission begins in `s`, first
bit first (R335): DATA after the second step of each bit-time. -/
def receivedBits (s : State) : List Bool :=
  (List.range s.cfg.w).map fun k => (seqRun (2 * k + 2) s).seq.data

/-- The number whose bits, most significant first, are given. -/
def ofBits (bits : List Bool) : Nat := bits.foldl (fun acc x => 2 * acc + x.toNat) 0

/-! ### Commands -/

/-- `y` is the value of the W-bit two's complement pattern in the low W bits of a bus or lane `x` (R95): the one
sample congruent to `x`. -/
abbrev IsSampleOf (c : Config) (x : Nat) (y : Int) : Prop := c.IsSample y ∧ ((x : Int) - y) % 2 ^ c.w = 0

/-- How many operations R98 lists for a unit code; they are 0, 1, … in order (R99). -/
def listedOps (unit : Nat) : Nat :=
  if unit = 0x0 then 8 else if unit = 0x1 then 2 else if unit = 0x2 then 2 else if unit = 0x3 then 3
  else if unit = 0x4 then 4 else if unit = 0x5 then 7 else if unit = 0x6 then 1 else if unit = 0x7 then 6
  else if unit = 0xF then 1 else 0

/-- The instance count of a unit code (R93). -/
def instances (c : Config) (unit : Nat) : Nat :=
  if unit = 0x0 then c.nOsc else if unit = 0x1 then c.nGf else if unit = 0x2 then c.nQd
  else if unit = 0x4 then c.nAdsr else if unit = 0x5 then c.nOp
  else if unit = 0x3 ∨ unit = 0x6 ∨ unit = 0x7 ∨ unit = 0xF then 1 else 0

/-- R99's condition that a command word is illegal, read off its bits. -/
def illegalWord (c : Config) (w : CmdWord) : Prop :=
  let unit := w.toNat / 2 ^ 12
  let op := w.toNat / 2 ^ 8 % 2 ^ 4
  let inst := w.toNat % 2 ^ 8
  (0x8 ≤ unit ∧ unit ≤ 0xE) ∨ listedOps unit ≤ op ∨ instances c unit ≤ inst

/-- The commands that change no state but the response buses (R77). -/
def isReadOnly : Instr → Bool
  | .oscSaw _ => true
  | .oscSquare _ => true
  | .oscSine _ => true
  | .oscRead _ => true
  | .gfRead _ => true
  | .qdRead _ => true
  | .kpRead => true
  | .adsrApply _ => true
  | .adsrRead _ => true
  | .opSaw _ => true
  | .opSquare _ => true
  | .opSine _ => true
  | .opRead _ => true
  | .mixMix => true
  | .i2sIsWritable => true
  | .i2sStatus => true
  | .sysStatus => true
  | .oscTick _ => false
  | .oscSetFreq _ => false
  | .oscSetDelta _ => false
  | .oscTickMod _ => false
  | .gfSample _ => false
  | .qdSample _ => false
  | .kpScanStep => false
  | .kpGetEvent => false
  | .adsrFeed _ => false
  | .adsrTick _ => false
  | .opTick _ => false
  | .opFeedEvent _ => false
  | .opSetInput _ => false
  | .i2sWrite => false
  | .i2sWriteBlocking => false
  | .i2sWriteMono => false
  | .i2sWriteMonoBlocking => false

/-- The start time of a state, 0 for the states with none (R274). -/
def EnvState.startTime : EnvState → Nat
  | .off => 0
  | .attack s _ _ => s.toNat
  | .decay s _ => s.toNat
  | .sustain => 0
  | .release s _ _ => s.toNat

/-- A tick at `t` keeps the host contract of R274: the state it evaluates has begun. -/
abbrev TickInTime (st : EnvState) (t : Time) : Prop := (st.advance t).startTime ≤ t.toNat

/-- The states that a released event ends (R272). -/
def EnvState.sounding : EnvState → Bool
  | .off => false
  | .attack _ _ _ => true
  | .decay _ _ => true
  | .sustain => true
  | .release _ _ _ => false

/-- A feed keeps the host contract of R272: the deadline it computes, if any, is below `2^64`. -/
abbrev FeedFits (p : Profile) (st : EnvState) (ts : Time) (ev : Event) : Prop :=
  ev.valid = true →
    (ev.kind = .pressed → ts.toNat + p.attack + p.decay < 2 ^ 64) ∧
    (ev.kind = .released → st.sounding = true → ts.toNat + p.release < 2 ^ 64)

/-- The commands whose rules name a host contract (R402). -/
def hasContract : Instr → Bool
  | .adsrFeed _ => true
  | .adsrTick _ => true
  | .opTick _ => true
  | .opFeedEvent _ => true
  | _ => false

/-- The command word stands for a command with a host contract. -/
def wordHasContract (w : CmdWord) : Bool :=
  match decode w with
  | .ok i => hasContract i
  | .error _ => false

/-- The command is OSC.TICK on instance `i`. -/
def ticksOsc (i : Inst) (c : Command) : Bool :=
  match decode c.cmd with
  | .ok x => decide (x = .oscTick i)
  | .error _ => false

/-- The command may write a register of `OSC[i]` (R33). -/
def writesOsc (i : Inst) (c : Command) : Bool :=
  match decode c.cmd with
  | .ok (.oscTick k) => decide (k = i)
  | .ok (.oscSetFreq k) => decide (k = i)
  | .ok (.oscSetDelta k) => decide (k = i)
  | .ok (.oscTickMod k) => decide (k = i)
  | _ => false

/-- The command is I2S.WRITE. -/
def isWrite (c : Command) : Bool :=
  match decode c.cmd with
  | .ok .i2sWrite => true
  | _ => false

end Sys2Proof.Machine
end

