-- ==== Sys2Proof/Certificates/Slice0/Obligations.lean ====
section
/-! DEFINITION. The statements for the provers. An equation `exec i s = .next { s with … }` says at once that the
command completes, what it changes and that it changes nothing else. There is no addressed memory (R70), so no
statement speaks of bytes of memory; the frame takes in every unit, the transmit queue and the sequencer. -/

open Sys2Proof Sys2Proof.Machine

/-! ### Encoding and the step -/

/-- A command word decodes to a command exactly when it is that command's word (R91, R98): every word has one meaning
and every command one word. -/
def Obligations.DecodeInvertsEncode : Prop :=
  ∀ (i : Instr) (w : CmdWord), decode w = .ok i ↔ w = encode i

/-- The words that stand for no command of the configuration are those of R99, read off the word's bits: a reserved
unit, an unlisted op, or an instance at or above the unit's count. -/
def Obligations.IllegalWordsAreThoseListed : Prop :=
  ∀ (c : Config) (w : CmdWord), illegalWord c w ↔ ¬ ∃ i, decode w = .ok i ∧ i.wellFormed c = true

/-- One word of each unit, written out from R98, decodes to the command it stands for. -/
def Obligations.WordsOfEveryUnitDecode : Prop :=
  decode 0x0103 = .ok (.oscSetFreq 3) ∧ decode 0x10FF = .ok (.gfSample 255) ∧ decode 0x2100 = .ok (.qdRead 0) ∧
  decode 0x3100 = .ok .kpGetEvent ∧ decode 0x4207 = .ok (.adsrApply 7) ∧ decode 0x5601 = .ok (.opRead 1) ∧
  decode 0x6000 = .ok .mixMix ∧ decode 0x7400 = .ok .i2sWriteMonoBlocking ∧ decode 0xF000 = .ok .sysStatus

/-- A host turn runs the decoded command: the next command of the host when the port is idle, else the one on the
port; the turn is used up and the command's operands stand on the buses. That each step uses up the first of `turns`
is the model's choice (log 2), and so is that the head of `todo` goes onto the port and is performed in that same turn
and that the latch holds its tuple (log 3); R90 gives the tuple and that one command at a time is on the port. -/
def Obligations.HostTurnRunsDecodedCommand : Prop :=
  ∀ (s : State) (ts : List Turn), s.turns = .host :: ts →
    (∀ (c : Command) (rest : List Command) (i : Instr), s.phase = .idle → s.todo = c :: rest → decode c.cmd = .ok i →
      step s = exec i { s with turns := ts, todo := rest, cmd := c.cmd, a := c.a, b := c.b, v := c.v,
                               phase := .active }) ∧
    (∀ i : Instr, s.phase ≠ .idle → decode s.cmd = .ok i → step s = exec i { s with turns := ts })

/-! ### Illegal commands, the halted block, stopping -/

/-- R400: an illegal command, issued while not HALTED, sets ILLEGAL, drives 0 on both buses, changes no other state
of the block and completes; and no command clears ILLEGAL. That the turn is used up (log 2), that the command leaves
`todo` and that the port latch keeps its tuple, which no command reads (log 3), is the model's choice. -/
def Obligations.IllegalCommandSetsStickyBit : Prop :=
  (∀ (s : State) (c : Command) (rest : List Command) (ts : List Turn),
    s.turns = .host :: ts → s.phase = .idle → s.todo = c :: rest → s.halted = false → illegalWord s.cfg c.cmd →
    step s = .next { s with turns := ts, todo := rest, cmd := c.cmd, a := c.a, b := c.b, v := c.v,
                            illegal := true, r0 := 0, r1 := 0, phase := .idle }) ∧
  (∀ (i : Instr) (s t : State), exec i s = .next t → s.illegal = true → t.illegal = true)

/-- R403: while HALTED every command other than SYS.STATUS completes at once with 0 and changes no state, not even
ILLEGAL, and so does a word that stands for no command; SYS.STATUS reports the code; the sequencer takes no step; and
only reset leaves the halted state or moves the sequencer and its pins. -/
def Obligations.HaltedBlockOnlyAnswersStatus : Prop :=
  (∀ (i : Instr) (s : State), s.halted = true → i ≠ .sysStatus →
    exec i s = .next { s with r0 := 0, r1 := 0, phase := .idle }) ∧
  (∀ (s : State) (e : DecodeError), s.halted = true → decode s.cmd = .error e →
    s.perform = .next { s with r0 := 0, r1 := 0, phase := .idle }) ∧
  (∀ s : State, s.halted = true →
    exec .sysStatus s = .next { s with
      r0 := BitVec.ofNat 64 (s.illegal.toNat + 2 + 256 * s.cfgErr.toNat), r1 := 0, phase := .idle }) ∧
  (∀ s : State, s.halted = true → s.sequencerTurn = s) ∧
  (∀ s t : State, s.halted = true → s.turns.head? ≠ some .reset → step s = .next t →
    t.halted = true ∧ t.seq = s.seq ∧ t.txq = s.txq)

/-- R402, R405: no command is refused; only the four commands with a host contract ever fault, and only when they are
not HALTED and name an instance that exists. -/
def Obligations.OnlyContractCommandsStop : Prop :=
  ∀ (i : Instr) (s : State),
    (∀ r : Refusal, exec i s ≠ .refused r) ∧
    (∀ f : Fault, exec i s = .fault f →
      hasContract i = true ∧ s.halted = false ∧ i.wellFormed s.cfg = true)

/-- However the turns of host, sequencer and reset fall, a run in which the host issues none of ADSR.FEED, ADSR.TICK,
OP.TICK and OP.FEED_EVENT never stops: no other data or command word ends a run (R402). The turns, the reset turn among
them, are the model's choice (log 2, log 6). -/
def Obligations.RunsWithoutContractCommandsGoOn : Prop :=
  ∀ (k : Nat) (s : State), wordHasContract s.cmd = false → (∀ c ∈ s.todo, wordHasContract c.cmd = false) →
    SafeFor k s

/-! ### Invariants -/

/-- Every step from a well-formed state leads to a well-formed state: the ranges of all registers whose width the
configuration sets, the keypad invariants, the queue bound and alignment, the sequencer's position and the reported
configuration (R13, R34, R37, R39, R41, R43, R52, R54). -/
def Obligations.StepKeepsWellFormed : Prop :=
  ∀ s t : State, s.wf → step s = .next t → t.wf

/-- The state right after reset is well-formed, under every configuration, legal or not. -/
def Obligations.ResetIsWellFormed : Prop :=
  ∀ c : Config, (State.resetWith c).wf

/-- R37: the keypad invariants hold after reset and every step keeps them, so the stack has at most 16 entries. -/
def Obligations.KeypadInvariantsKept : Prop :=
  Keypad.reset.wf ∧ (∀ s t : State, s.kp.wf → step s = .next t → t.kp.wf) ∧
    (∀ k : Keypad, k.wf → k.stack.length ≤ 16)

/-- A host command never writes the sequencer's fields, the configuration, the configuration error, the operand buses
or the inputs still to come (R32, R52, R82), and to the queue it does nothing or appends one word that fits (R81). -/
def Obligations.CommandsLeaveSequencerAlone : Prop :=
  ∀ (i : Instr) (s t : State), exec i s = .next t →
    t.seq = s.seq ∧ t.cfg = s.cfg ∧ t.cfgErr = s.cfgErr ∧ t.halted = s.halted ∧ t.cmd = s.cmd ∧ t.a = s.a ∧
    t.b = s.b ∧ t.v = s.v ∧ t.todo = s.todo ∧ t.turns = s.turns ∧
    (t.txq = s.txq ∨ ∃ w, t.txq = s.txq ++ [w] ∧ s.txq.length < s.cfg.q)

/-- A sequencer turn changes only the queue and the sequencer's own fields (R52, R82); from the queue it takes nothing
or the oldest word (R81). -/
def Obligations.SequencerTakesOnlyOldestWord : Prop :=
  ∀ (s : State) (ts : List Turn), s.turns = .sequencer :: ts →
    ∃ (q : List Word32) (u : Sequencer), step s = .next { s with turns := ts, txq := q, seq := u } ∧
      (q = s.txq ∨ ∃ w, s.txq = w :: q)

/-- ILLEGAL and TXOVER, once set, and the configuration, CFG_ERR and HALTED stay as they are through every step but a
reset (R32, R44, R54; the reset turn is the model's, log 6). -/
def Obligations.StickyBitsClearedOnlyByReset : Prop :=
  ∀ s t : State, step s = .next t → t.cfg = s.cfg ∧
    (s.turns.head? ≠ some .reset →
      (s.illegal = true → t.illegal = true) ∧ (s.txover = true → t.txover = true) ∧
      t.cfgErr = s.cfgErr ∧ t.halted = s.halted)

/-- R77: the read commands, the samplers, ADSR.APPLY and MIX.MIX change no state but the response buses, and issued
again return the same response. -/
def Obligations.ReadsChangeNothingAndRepeat : Prop :=
  ∀ (i : Instr) (s : State), isReadOnly i = true → s.halted = false → i.wellFormed s.cfg = true →
    ∃ r0 r1 : Bus, exec i s = .next { s with r0 := r0, r1 := r1, phase := .idle } ∧
      exec i { s with r0 := r0, r1 := r1, phase := .idle } = .next { s with r0 := r0, r1 := r1, phase := .idle }

/-! ### Oscillator -/

/-- R200: OSC.TICK adds the delta to the phase modulo 2^32 and changes nothing else. -/
def Obligations.OscTickAddsDelta : Prop :=
  ∀ (s : State) (i : Inst), s.halted = false → i.toNat < s.cfg.nOsc →
    decode (0x00#8 ++ i) = .ok (.oscTick i) ∧
    exec (.oscTick i) s = .next { s with
      osc := s.osc.set i.toNat ⟨(s.oscAt i).phase + (s.oscAt i).delta, (s.oscAt i).delta⟩
      r0 := 0, r1 := 0, phase := .idle }

/-- R201, R202: OSC.SET_FREQ loads `floor(F * 2^(32-FFB) / RATE) mod 2^32`, OSC.SET_DELTA the operand, each from bits
31:0 of A; the phase is not changed. -/
def Obligations.OscSetLoadsDelta : Prop :=
  ∀ (s : State) (i : Inst), s.halted = false → i.toNat < s.cfg.nOsc →
    decode (0x01#8 ++ i) = .ok (.oscSetFreq i) ∧
    exec (.oscSetFreq i) s = .next { s with
      osc := s.osc.set i.toNat ⟨(s.oscAt i).phase,
        BitVec.ofNat 32 ((s.a.toNat % 2 ^ 32) * 2 ^ (32 - s.cfg.ffb) / s.cfg.rate)⟩
      r0 := 0, r1 := 0, phase := .idle } ∧
    decode (0x02#8 ++ i) = .ok (.oscSetDelta i) ∧
    exec (.oscSetDelta i) s = .next { s with
      osc := s.osc.set i.toNat ⟨(s.oscAt i).phase, BitVec.ofNat 32 s.a.toNat⟩
      r0 := 0, r1 := 0, phase := .idle }

/-- R203: OSC.TICK_MOD adds the perturbation `floor(delta * x * ratio / 2^MOD_SCALE)` and the delta to the phase modulo
2^32, `x` being the sample whose pattern is in the low W bits of A and `ratio` bits 31:0 of B. -/
def Obligations.OscTickModPerturbsPhase : Prop :=
  ∀ (s : State) (i : Inst) (x : Int), s.halted = false → i.toNat < s.cfg.nOsc → 0 < s.cfg.w →
    IsSampleOf s.cfg s.a.toNat x →
    decode (0x03#8 ++ i) = .ok (.oscTickMod i) ∧
    exec (.oscTickMod i) s = .next { s with
      osc := s.osc.set i.toNat
        ⟨BitVec.ofInt 32 ((s.oscAt i).phase.toNat +
            Int.fdiv ((s.oscAt i).delta.toNat * x * (s.b.toNat % 2 ^ 32 : Nat)) (2 ^ s.cfg.modScale) +
            (s.oscAt i).delta.toNat),
          (s.oscAt i).delta⟩
      r0 := 0, r1 := 0, phase := .idle }

/-- R204: OSC.SAW answers the sample whose W-bit pattern is the top W bits of the phase. -/
def Obligations.OscSawReadsTopBits : Prop :=
  ∀ (s : State) (i : Inst), s.halted = false → i.toNat < s.cfg.nOsc → s.cfg.Legal →
    decode (0x04#8 ++ i) = .ok (.oscSaw i) ∧
    ∃ y : Int, IsSampleOf s.cfg ((s.oscAt i).phase.toNat / 2 ^ (32 - s.cfg.w)) y ∧
      exec (.oscSaw i) s = .next { s with r0 := BitVec.ofInt 64 y, r1 := 0, phase := .idle }

/-- R205: OSC.SQUARE answers 0 when the delta is 0, else the greatest sample in the first half of the cycle and the
least in the second. -/
def Obligations.OscSquareFollowsTopBit : Prop :=
  ∀ (s : State) (i : Inst), s.halted = false → i.toNat < s.cfg.nOsc →
    decode (0x05#8 ++ i) = .ok (.oscSquare i) ∧
    exec (.oscSquare i) s = .next { s with
      r0 := BitVec.ofInt 64 (if (s.oscAt i).delta = 0 then 0
        else if (s.oscAt i).phase.toNat < 2 ^ 31 then 2 ^ (s.cfg.w - 1) - 1 else -(2 ^ (s.cfg.w - 1)))
      r1 := 0, phase := .idle }

/-- R206: OSC.SINE answers the linear interpolation between the table entry of the phase's interval and the next
(wrapping at the table's end), truncated toward zero, and the answer lies between the two. -/
def Obligations.OscSineInterpolatesTable : Prop :=
  ∀ (s : State) (i : Inst) (index : Nat) (y0 y1 : Int), s.halted = false → i.toNat < s.cfg.nOsc → s.cfg.Legal →
    index = (s.oscAt i).phase.toNat / (2 ^ 32 / s.cfg.l) →
    s.cfg.sineTable[index]? = some y0 → s.cfg.sineTable[(index + 1) % s.cfg.l]? = some y1 →
    decode (0x06#8 ++ i) = .ok (.oscSine i) ∧
    ∃ y : Int,
      y = y0 + Int.tdiv (((s.oscAt i).phase.toNat - index * (2 ^ 32 / s.cfg.l) : Nat) * (y1 - y0))
        (2 ^ 32 / s.cfg.l : Nat) ∧
      min y0 y1 ≤ y ∧ y ≤ max y0 y1 ∧
      exec (.oscSine i) s = .next { s with r0 := BitVec.ofInt 64 y, r1 := 0, phase := .idle }

/-- R206, R71: under a legal configuration both table entries a phase needs exist. -/
def Obligations.SineTableReadsInRange : Prop :=
  ∀ (c : Config) (phase : Word32), c.Legal →
    phase.toNat / (2 ^ 32 / c.l) < c.sineTable.length ∧
    (phase.toNat / (2 ^ 32 / c.l) + 1) % c.l < c.sineTable.length

/-- R207, R276, R296: OSC.READ, ADSR.READ and OP.READ answer the oscillator's delta and phase, and the envelope and
its state's code: Off 0, Attack 1, Decay 2, Sustain 3, Release 4 (R39). -/
def Obligations.RegisterReadBacks : Prop :=
  (EnvState.off.code = 0 ∧ (∀ b ae de : Time, (EnvState.attack b ae de).code = 1) ∧
    (∀ b stop : Time, (EnvState.decay b stop).code = 2) ∧ EnvState.sustain.code = 3 ∧
    (∀ (b : Time) (v : Nat) (stop : Time), (EnvState.release b v stop).code = 4)) ∧
  ∀ (s : State) (i : Inst), s.halted = false →
    (i.toNat < s.cfg.nOsc →
      decode (0x07#8 ++ i) = .ok (.oscRead i) ∧
      exec (.oscRead i) s = .next { s with
        r0 := (s.oscAt i).delta ++ (s.oscAt i).phase, r1 := 0, phase := .idle }) ∧
    (i.toNat < s.cfg.nAdsr →
      decode (0x43#8 ++ i) = .ok (.adsrRead i) ∧
      exec (.adsrRead i) s = .next { s with
        r0 := BitVec.ofNat 64 (s.adsrAt i).env, r1 := BitVec.ofNat 64 (s.adsrAt i).st.code, phase := .idle }) ∧
    (i.toNat < s.cfg.nOp → (s.opAt i).adsr.env < 2 ^ 32 →
      decode (0x56#8 ++ i) = .ok (.opRead i) ∧
      exec (.opRead i) s = .next { s with
        r0 := (s.opAt i).osc.delta ++ (s.opAt i).osc.phase
        r1 := BitVec.ofNat 32 (s.opAt i).adsr.st.code ++ BitVec.ofNat 32 (s.opAt i).adsr.env
        phase := .idle })

/-- R208, over runs of the whole machine: in any run without a reset in which the host issues no command that writes
`OSC[i]` but OSC.TICK, whatever else it issues and however the sequencer's turns fall, after `n` OSC.TICK commands the
phase is `phase_0 + n * delta` modulo 2^32, and it is `phase_0` exactly when `2^32 / gcd(delta, 2^32)` divides `n`. -/
def Obligations.OscPhaseIsPeriodic : Prop :=
  ∀ (k : Nat) (s t : State) (i : Inst) (n : Nat),
    s.halted = false → i.toNat < s.cfg.nOsc → s.osc.length = s.cfg.nOsc → s.phase = .idle → .reset ∉ s.turns →
    (∀ c ∈ s.todo, writesOsc i c = true → ticksOsc i c = true) →
    Host.Core.run Sys2Proof.core k s = .next t →
    n = s.todo.countP (ticksOsc i) - t.todo.countP (ticksOsc i) →
    (t.oscAt i).delta = (s.oscAt i).delta ∧
    (t.oscAt i).phase.toNat = ((s.oscAt i).phase.toNat + n * (s.oscAt i).delta.toNat) % 2 ^ 32 ∧
    ((t.oscAt i).phase = (s.oscAt i).phase ↔ 2 ^ 32 / Nat.gcd (s.oscAt i).delta.toNat (2 ^ 32) ∣ n)

/-- R209: the samples of adjacent phases, the wrap included, differ by at most `ceil(|y1 - y0| / span)` for the larger
of the table steps of the two intervals; and by at most 1 when no step of the table is above `span`. -/
def Obligations.SineIsContinuous : Prop :=
  ∀ (c : Config) (p : Word32) (stepAt : Nat → Int), c.Legal →
    (stepAt = fun k => |sineEntry c (k + 1) - sineEntry c k|) →
    |sine c (p + 1) - sine c p| ≤
      (max (stepAt (p.toNat / c.span)) (stepAt ((p + 1).toNat / c.span)) + c.span - 1) / c.span ∧
    ((∀ k, k < c.l → stepAt k ≤ c.span) → |sine c (p + 1) - sine c p| ≤ 1)

/-! ### Glitch filter and quadrature decoder -/

/-- R229, R230: GF.SAMPLE shifts bit 0 of A into the register at bit 0; all ones while clear is a transition to set
(code 3), all zeros while set a transition to clear (code 1), anything else no change (code 0). -/
def Obligations.GfSampleDebounces : Prop :=
  ∀ (s : State) (i : Inst) (sr : Nat), s.halted = false → i.toNat < s.cfg.nGf →
    sr = ((s.gfAt i).sr * 2 + s.a.toNat % 2) % 2 ^ s.cfg.n →
    decode (0x10#8 ++ i) = .ok (.gfSample i) ∧
    exec (.gfSample i) s = .next
      (if sr = 2 ^ s.cfg.n - 1 ∧ (s.gfAt i).state = false then
        { s with gf := s.gf.set i.toNat ⟨sr, true⟩, r0 := 3, r1 := 0, phase := .idle }
      else if sr = 0 ∧ (s.gfAt i).state = true then
        { s with gf := s.gf.set i.toNat ⟨sr, false⟩, r0 := 1, r1 := 0, phase := .idle }
      else
        { s with gf := s.gf.set i.toNat ⟨sr, (s.gfAt i).state⟩, r0 := 0, r1 := 0, phase := .idle })

/-- R229, R230, R231 as behaviour over many samples: after any samples, N equal samples leave the filter in the state
of their value with the register all that value; and a bit of the register is the sample fed that many samples ago. -/
def Obligations.FilterFollowsLastSamples : Prop :=
  ∀ (c : Config) (f : Filter) (xs : List Bool),
    (∀ x : Bool, 1 ≤ c.n →
      (xs ++ List.replicate c.n x).foldl (fun g y => (gfStep c g y).1) f =
        ⟨if x then 2 ^ c.n - 1 else 0, x⟩) ∧
    (∀ k, k < c.n → k < xs.length →
      (xs.foldl (fun g y => (gfStep c g y).1) f).sr.testBit k = xs.reverse.getD k false)

/-- R233: QD.SAMPLE steps both channel filters with bits 0 and 1 of A and answers 1 for increment, 2 for decrement and
0 for no event, from which channel's debounced state changed and how the new states compare. -/
def Obligations.QdSampleReportsRotation : Prop :=
  ∀ (s : State) (i : Inst) (a' b' : Filter), s.halted = false → i.toNat < s.cfg.nQd →
    a' = (gfStep s.cfg (s.qdAt i).a (s.a.getLsbD 0)).1 → b' = (gfStep s.cfg (s.qdAt i).b (s.a.getLsbD 1)).1 →
    decode (0x20#8 ++ i) = .ok (.qdSample i) ∧
    exec (.qdSample i) s = .next { s with
      qd := s.qd.set i.toNat ⟨a', b'⟩
      r0 := if a'.state ≠ (s.qdAt i).a.state ∧ b'.state ≠ (s.qdAt i).b.state then 0
        else if a'.state ≠ (s.qdAt i).a.state then (if a'.state ≠ b'.state then 1 else 2)
        else if b'.state ≠ (s.qdAt i).b.state then (if b'.state = a'.state then 1 else 2)
        else 0
      r1 := 0, phase := .idle }

/-- R234: the direction table over the debounced states (A, B) before and after a sample. -/
def Obligations.QdDirectionTable : Prop :=
  ∀ (c : Config) (d : Quadrature) (xa xb : Bool) (r : Quadrature × Rotation), r = qdStep c d xa xb →
    r.2 = match d.a.state, d.b.state, r.1.a.state, r.1.b.state with
      | false, false, true, false => .increment
      | true, false, true, true => .increment
      | true, true, false, true => .increment
      | false, true, false, false => .increment
      | false, false, false, true => .decrement
      | false, true, true, true => .decrement
      | true, true, true, false => .decrement
      | true, false, false, false => .decrement
      | _, _, _, _ => .none

/-- R232, R235: GF.READ and QD.READ answer the filters' states and registers in the layout of R97. -/
def Obligations.FilterReadBacks : Prop :=
  ∀ (s : State) (i : Inst), s.halted = false → s.cfg.n ≤ 32 → 1 ≤ s.cfg.n →
    (i.toNat < s.cfg.nGf → (s.gfAt i).wf s.cfg →
      decode (0x11#8 ++ i) = .ok (.gfRead i) ∧
      exec (.gfRead i) s = .next { s with
        r0 := BitVec.ofNat 64 ((s.gfAt i).sr + 2 ^ 32 * (s.gfAt i).state.toNat), r1 := 0, phase := .idle }) ∧
    (i.toNat < s.cfg.nQd → (s.qdAt i).wf s.cfg →
      decode (0x21#8 ++ i) = .ok (.qdRead i) ∧
      exec (.qdRead i) s = .next { s with
        r0 := BitVec.ofNat 64 ((s.qdAt i).a.state.toNat + 2 * (s.qdAt i).b.state.toNat)
        r1 := BitVec.ofNat 32 (s.qdAt i).b.sr ++ BitVec.ofNat 32 (s.qdAt i).a.sr, phase := .idle })

/-! ### Keypad scanner -/

/-- R252: KP.SCAN_STEP, as one change of the whole scanner: the buttons of the energized row take the levels of the
columns; the released ones leave the stack and the pressed ones are appended in column order; `last_rel` is the last
released, or is cleared if it was pressed again; a change stamps the time and raises `changed`; the next row is
energized. -/
def Obligations.KpScanStepTracksRow : Prop :=
  ∀ (s : State) (row down up : List Button), s.halted = false → s.kp.wf →
    row = [0, 1, 2, 3].map (fun col => BitVec.ofNat 4 (4 * s.kp.row.toNat + col)) →
    down = row.filter (fun b => s.b.getLsbD (b.toNat % 4) && !s.kp.isPressed b) →
    up = row.filter (fun b => !s.b.getLsbD (b.toNat % 4) && s.kp.isPressed b) →
    decode 0x3000 = .ok .kpScanStep ∧
    ∃ k : Keypad,
      exec .kpScanStep s = .next { s with kp := k, r0 := 0, r1 := 0, phase := .idle } ∧
      k.row = s.kp.row + 1 ∧
      (∀ b : Button, k.isPressed b = if b ∈ row then s.b.getLsbD (b.toNat % 4) else s.kp.isPressed b) ∧
      k.stack = s.kp.stack.filter (fun b => decide (b ∉ up)) ++ down ∧
      k.lastRel = (match up.getLast? with
        | some b => some b
        | none => s.kp.lastRel.filter (fun b => decide (b ∉ down))) ∧
      k.changed = (s.kp.changed || !(down ++ up).isEmpty) ∧
      k.stamp = if (down ++ up).isEmpty then s.kp.stamp else s.a

/-- R253: KP.GET_EVENT answers nothing unless `changed`; else one event, the top of the stack as pressed, or with an
empty stack the last released button as released, with the stamp; and it clears `changed`. -/
def Obligations.KpGetEventSurfacesOneEvent : Prop :=
  ∀ s : State, s.halted = false →
    decode 0x3100 = .ok .kpGetEvent ∧
    (s.kp.changed = false →
      exec .kpGetEvent s = .next { s with r0 := 0, r1 := 0, phase := .idle }) ∧
    (∀ (older : List Button) (b : Button), s.kp.changed = true → s.kp.stack = older ++ [b] →
      exec .kpGetEvent s = .next { s with
        kp := { s.kp with changed := false }
        r0 := s.kp.stamp, r1 := BitVec.ofNat 64 (1 + 16 * b.toNat), phase := .idle }) ∧
    (∀ b : Button, s.kp.changed = true → s.kp.stack = [] → s.kp.lastRel = some b →
      exec .kpGetEvent s = .next { s with
        kp := { s.kp with changed := false }
        r0 := s.kp.stamp, r1 := BitVec.ofNat 64 (3 + 16 * b.toNat), phase := .idle }) ∧
    (s.kp.changed = true → s.kp.stack = [] → s.kp.lastRel = none →
      exec .kpGetEvent s = .next { s with
        kp := { s.kp with changed := false }, r0 := 0, r1 := 0, phase := .idle })

/-- R255: KP.READ answers the scanner's fields in the layout of R97, each stack entry in its own four bits of R1, the
oldest lowest, and zeros above the last. -/
def Obligations.KpReadShowsStack : Prop :=
  ∀ s : State, s.halted = false → s.kp.wf →
    decode 0x3200 = .ok .kpRead ∧
    ∃ r1 : Bus,
      exec .kpRead s = .next { s with
        r0 := BitVec.ofNat 64 (s.kp.pressed.toNat + 2 ^ 16 * s.kp.row.toNat + 2 ^ 18 * s.kp.stack.length +
          2 ^ 23 * s.kp.lastRel.isSome.toNat + 2 ^ 24 * (s.kp.lastRel.getD 0).toNat +
          2 ^ 28 * s.kp.changed.toNat)
        r1 := r1, phase := .idle } ∧
      (∀ k, k < 16 → r1.toNat / 2 ^ (4 * k) % 2 ^ 4 = (s.kp.stack.getD k 0).toNat)

/-- R96: the event that KP.GET_EVENT drives is the event a FEED reads from the same bits. -/
def Obligations.EventLayoutRoundTrips : Prop :=
  ∀ e : Event, eventOperand (eventResponse e) = e

/-! ### Envelope generator -/

/-- R272: ADSR.FEED. An absent event changes nothing; a press from every state enters Attack at the timestamp; a
release in Attack, Decay or Sustain enters Release from the current envelope and is ignored in Off and Release; a
deadline of 2^64 or more is a host-contract fault. -/
def Obligations.AdsrFeedTransitions : Prop :=
  ∀ (s : State) (i : Inst) (p : Profile) (e : Adsr), s.halted = false → i.toNat < s.cfg.nAdsr → s.cfg.Legal →
    s.cfg.profileAdsr[i.toNat]? = some p → s.adsr[i.toNat]? = some e →
    decode (0x40#8 ++ i) = .ok (.adsrFeed i) ∧
    (s.b.getLsbD 0 = false →
      exec (.adsrFeed i) s = .next { s with r0 := 0, r1 := 0, phase := .idle }) ∧
    (s.b.getLsbD 0 = true → s.b.getLsbD 1 = false → s.a.toNat + p.attack + p.decay < 2 ^ 64 →
      exec (.adsrFeed i) s = .next { s with
        adsr := s.adsr.set i.toNat ⟨.attack s.a (BitVec.ofNat 64 (s.a.toNat + p.attack))
          (BitVec.ofNat 64 (s.a.toNat + p.attack + p.decay)), e.env⟩
        r0 := 0, r1 := 0, phase := .idle }) ∧
    (s.b.getLsbD 0 = true → s.b.getLsbD 1 = false → 2 ^ 64 ≤ s.a.toNat + p.attack + p.decay →
      exec (.adsrFeed i) s = .fault .deadlineOverflow) ∧
    (s.b.getLsbD 0 = true → s.b.getLsbD 1 = true → e.st.sounding = true → s.a.toNat + p.release < 2 ^ 64 →
      exec (.adsrFeed i) s = .next { s with
        adsr := s.adsr.set i.toNat ⟨.release s.a e.env (BitVec.ofNat 64 (s.a.toNat + p.release)), e.env⟩
        r0 := 0, r1 := 0, phase := .idle }) ∧
    (s.b.getLsbD 0 = true → s.b.getLsbD 1 = true → e.st.sounding = true → 2 ^ 64 ≤ s.a.toNat + p.release →
      exec (.adsrFeed i) s = .fault .deadlineOverflow) ∧
    (s.b.getLsbD 0 = true → s.b.getLsbD 1 = true → e.st.sounding = false →
      exec (.adsrFeed i) s = .next { s with r0 := 0, r1 := 0, phase := .idle })

/-- R273, R274: ADSR.TICK at time `A` moves to `st'` with envelope `v` in each case of the rules; a time before the
start of the state it evaluates is a host-contract fault. -/
def Obligations.AdsrTickMovesAndInterpolates : Prop :=
  ∀ (s : State) (i : Inst) (p : Profile) (e : Adsr) (goTo : EnvState → Nat → State), s.halted = false →
    i.toNat < s.cfg.nAdsr → s.cfg.Legal → s.cfg.profileAdsr[i.toNat]? = some p → s.adsr[i.toNat]? = some e →
    (goTo = fun st' v => { s with adsr := s.adsr.set i.toNat ⟨st', v⟩, r0 := 0, r1 := 0, phase := .idle }) →
    decode (0x41#8 ++ i) = .ok (.adsrTick i) ∧
    (e.st = .off → exec (.adsrTick i) s = .next (goTo .off 0)) ∧
    (e.st = .sustain → exec (.adsrTick i) s = .next (goTo .sustain p.sustain)) ∧
    (∀ b ae de : Time, e.st = .attack b ae de →
      (de.toNat ≤ s.a.toNat → exec (.adsrTick i) s = .next (goTo .sustain p.sustain)) ∧
      (s.a.toNat < de.toNat → ae.toNat ≤ s.a.toNat →
        exec (.adsrTick i) s = .next (goTo (.decay ae de)
          (s.cfg.emax - (s.a.toNat - ae.toNat) * (s.cfg.emax - p.sustain) / (de.toNat - ae.toNat)))) ∧
      (s.a.toNat < de.toNat → s.a.toNat < ae.toNat → b.toNat ≤ s.a.toNat →
        exec (.adsrTick i) s = .next (goTo (.attack b ae de)
          ((s.a.toNat - b.toNat) * s.cfg.emax / (ae.toNat - b.toNat)))) ∧
      (s.a.toNat < de.toNat → s.a.toNat < ae.toNat → s.a.toNat < b.toNat →
        exec (.adsrTick i) s = .fault .timeBeforeStateStart)) ∧
    (∀ b stop : Time, e.st = .decay b stop →
      (stop.toNat ≤ s.a.toNat → exec (.adsrTick i) s = .next (goTo .sustain p.sustain)) ∧
      (s.a.toNat < stop.toNat → b.toNat ≤ s.a.toNat →
        exec (.adsrTick i) s = .next (goTo (.decay b stop)
          (s.cfg.emax - (s.a.toNat - b.toNat) * (s.cfg.emax - p.sustain) / (stop.toNat - b.toNat)))) ∧
      (s.a.toNat < stop.toNat → s.a.toNat < b.toNat →
        exec (.adsrTick i) s = .fault .timeBeforeStateStart)) ∧
    (∀ (b : Time) (v : Nat) (stop : Time), e.st = .release b v stop →
      (stop.toNat ≤ s.a.toNat → exec (.adsrTick i) s = .next (goTo .off 0)) ∧
      (s.a.toNat < stop.toNat → b.toNat ≤ s.a.toNat →
        exec (.adsrTick i) s = .next (goTo (.release b v stop)
          (v - (s.a.toNat - b.toNat) * v / (stop.toNat - b.toNat)))) ∧
      (s.a.toNat < stop.toNat → s.a.toNat < b.toNat →
        exec (.adsrTick i) s = .fault .timeBeforeStateStart))

/-- R275: ADSR.APPLY answers `floor(x * env / 2^EB)` for the sample `x` in the low W bits of A, which is a sample and
is never the least one. -/
def Obligations.AdsrApplyScalesSample : Prop :=
  ∀ (s : State) (i : Inst) (x : Int), s.halted = false → i.toNat < s.cfg.nAdsr → 0 < s.cfg.w →
    IsSampleOf s.cfg s.a.toNat x → (s.adsrAt i).env ≤ s.cfg.emax →
    decode (0x42#8 ++ i) = .ok (.adsrApply i) ∧
    ∃ y : Int, y = Int.fdiv (x * (s.adsrAt i).env) (2 ^ (s.cfg.w - 1)) ∧ -s.cfg.smax ≤ y ∧ y ≤ s.cfg.smax ∧
      exec (.adsrApply i) s = .next { s with r0 := BitVec.ofInt 64 y, r1 := 0, phase := .idle }

/-- R278: two successive ADSR.TICK commands at non-decreasing times that leave the state the same give a
non-decreasing envelope in Attack, a non-increasing one in Decay and Release, and in Sustain the sustain level. -/
def Obligations.EnvelopeIsMonotone : Prop :=
  ∀ (s t u : State) (i : Inst) (later : Time), s.halted = false → i.toNat < s.cfg.nAdsr → s.cfg.Legal → s.Sized →
    exec (.adsrTick i) s = .next t → s.a.toNat ≤ later.toNat → exec (.adsrTick i) { t with a := later } = .next u →
    (u.adsrAt i).st = (t.adsrAt i).st →
    match (t.adsrAt i).st with
    | .off => (t.adsrAt i).env = 0 ∧ (u.adsrAt i).env = 0
    | .attack _ _ _ => (t.adsrAt i).env ≤ (u.adsrAt i).env
    | .decay _ _ => (u.adsrAt i).env ≤ (t.adsrAt i).env
    | .sustain => (t.adsrAt i).env = (s.profileAdsr i).sustain ∧ (u.adsrAt i).env = (s.profileAdsr i).sustain
    | .release _ _ _ => (u.adsrAt i).env ≤ (t.adsrAt i).env

/-! ### FM operator -/

/-- R290: OP.TICK advances the oscillator by its own input and ratio as OSC.TICK_MOD does, and the envelope as
ADSR.TICK does; where the envelope part breaks the host contract the whole command faults. -/
def Obligations.OpTickAdvancesBothParts : Prop :=
  ∀ (s : State) (i : Inst) (p : Profile) (ratio : Nat) (o : Operator), s.halted = false → i.toNat < s.cfg.nOp →
    s.cfg.profileOp[i.toNat]? = some p → s.cfg.ratioOp[i.toNat]? = some ratio → s.op[i.toNat]? = some o →
    decode (0x50#8 ++ i) = .ok (.opTick i) ∧
    (TickInTime o.adsr.st s.a → ∃ e : Adsr, o.adsr.tick s.cfg p s.a = .ok e ∧ e.st = o.adsr.st.advance s.a ∧
      exec (.opTick i) s = .next { s with
        op := s.op.set i.toNat
          ⟨⟨BitVec.ofInt 32 (o.osc.phase.toNat +
              Int.fdiv (o.osc.delta.toNat * o.input * ratio) (2 ^ s.cfg.modScale) + o.osc.delta.toNat),
            o.osc.delta⟩, e, o.input⟩
        r0 := 0, r1 := 0, phase := .idle }) ∧
    (¬ TickInTime o.adsr.st s.a → exec (.opTick i) s = .fault .timeBeforeStateStart)

/-- R291: OP.FEED_EVENT. An absent event changes nothing; any other is fed to the envelope as by ADSR.FEED and loads the
delta of its button, the phase and the input unchanged; where the envelope part breaks the host contract the whole
command faults. -/
def Obligations.OpFeedEventLoadsNote : Prop :=
  ∀ (s : State) (i : Inst) (p : Profile) (o : Operator) (ev : Event) (delta : Nat), s.halted = false →
    i.toNat < s.cfg.nOp → s.cfg.Legal → s.cfg.profileOp[i.toNat]? = some p → s.op[i.toNat]? = some o →
    ev = eventOperand s.b → s.cfg.freqTable[ev.button.toNat]? = some delta →
    decode (0x51#8 ++ i) = .ok (.opFeedEvent i) ∧
    (ev.valid = false → exec (.opFeedEvent i) s = .next { s with r0 := 0, r1 := 0, phase := .idle }) ∧
    (ev.valid = true → FeedFits p o.adsr.st s.a ev → ∃ e : Adsr, o.adsr.feed s.cfg p s.a ev = .ok e ∧
      e.env = o.adsr.env ∧
      exec (.opFeedEvent i) s = .next { s with
        op := s.op.set i.toNat ⟨⟨o.osc.phase, BitVec.ofNat 32 delta⟩, e, o.input⟩
        r0 := 0, r1 := 0, phase := .idle }) ∧
    (¬ FeedFits p o.adsr.st s.a ev → exec (.opFeedEvent i) s = .fault .deadlineOverflow)

/-- R292: OP.SET_INPUT loads the sample in the low W bits of A. -/
def Obligations.OpSetInputLoadsSample : Prop :=
  ∀ (s : State) (i : Inst) (x : Int), s.halted = false → i.toNat < s.cfg.nOp → 0 < s.cfg.w →
    IsSampleOf s.cfg s.a.toNat x →
    decode (0x52#8 ++ i) = .ok (.opSetInput i) ∧
    exec (.opSetInput i) s = .next { s with
      op := s.op.set i.toNat ⟨(s.opAt i).osc, (s.opAt i).adsr, x⟩, r0 := 0, r1 := 0, phase := .idle }

/-- R293, R294, R295: each operator sampler answers `floor(raw * env / 2^EB)`, `raw` being the sample that the
oscillator sampler of the same wave gives for the operator's phase and delta. -/
def Obligations.OpSamplersApplyEnvelope : Prop :=
  ∀ (s : State) (i : Inst) (raw : Int), s.halted = false → i.toNat < s.cfg.nOp → s.cfg.Legal →
    decode (0x53#8 ++ i) = .ok (.opSaw i) ∧ decode (0x54#8 ++ i) = .ok (.opSquare i) ∧
    decode (0x55#8 ++ i) = .ok (.opSine i) ∧
    (IsSampleOf s.cfg ((s.opAt i).osc.phase.toNat / 2 ^ (32 - s.cfg.w)) raw →
      exec (.opSaw i) s = .next { s with
        r0 := BitVec.ofInt 64 (Int.fdiv (raw * (s.opAt i).adsr.env) (2 ^ (s.cfg.w - 1))), r1 := 0
        phase := .idle }) ∧
    ((raw = if (s.opAt i).osc.delta = 0 then 0
        else if (s.opAt i).osc.phase.toNat < 2 ^ 31 then 2 ^ (s.cfg.w - 1) - 1 else -(2 ^ (s.cfg.w - 1))) →
      exec (.opSquare i) s = .next { s with
        r0 := BitVec.ofInt 64 (Int.fdiv (raw * (s.opAt i).adsr.env) (2 ^ (s.cfg.w - 1))), r1 := 0
        phase := .idle }) ∧
    (raw = sine s.cfg (s.opAt i).osc.phase →
      exec (.opSine i) s = .next { s with
        r0 := BitVec.ofInt 64 (Int.fdiv (raw * (s.opAt i).adsr.env) (2 ^ (s.cfg.w - 1))), r1 := 0
        phase := .idle })

/-! ### Mixer -/

/-- R312: MIX.MIX answers the sum of the K samples times their weights, shifted right by W-1 with floor, and the answer
is in `-SMAX .. SMAX-1` for every input. -/
def Obligations.MixIsWeightedSum : Prop :=
  ∀ (s : State) (x : Nat → Int), s.halted = false → s.cfg.Legal →
    (∀ k, k < s.cfg.k → IsSampleOf s.cfg (s.v.getD k 0).toNat (x k)) →
    decode 0x6000 = .ok .mixMix ∧
    ∃ y : Int, y = Int.fdiv (((List.range s.cfg.k).map fun k => x k * s.cfg.weights.getD k 0).sum)
        (2 ^ (s.cfg.w - 1)) ∧
      -s.cfg.smax ≤ y ∧ y ≤ s.cfg.smax - 1 ∧
      exec .mixMix s = .next { s with r0 := BitVec.ofInt 64 y, r1 := 0, phase := .idle }

/-- R310, R311: for every vector of positive levels the largest-remainder weights sum to SMAX exactly, each is its
quotient or one more, and those that get one more are the first in the order of R311: an index that gets one more has
a greater remainder than any that does not, or the same remainder and the lower index. -/
def Obligations.WeightsSumExactly : Prop :=
  ∀ (smax : Int) (levels weights : List Int) (q r : Nat → Int), levels ≠ [] → (∀ x ∈ levels, 0 < x) →
    weights = largestRemainder smax levels →
    (q = fun k => smax * levels.getD k 0 / levels.sum) → (r = fun k => smax * levels.getD k 0 % levels.sum) →
    weights.length = levels.length ∧ weights.sum = smax ∧
    (∀ k, k < levels.length → weights.getD k 0 = q k ∨ weights.getD k 0 = q k + 1) ∧
    (∀ i k, i < levels.length → k < levels.length → weights.getD i 0 = q i + 1 → weights.getD k 0 = q k →
      r k < r i ∨ (r k = r i ∧ i < k))

/-- R313: under a legal configuration the weights sum to SMAX, and K inputs at SMAX mix to SMAX - 1. -/
def Obligations.FullScaleMixWithinOneStep : Prop :=
  ∀ c : Config, c.Legal → c.weights.sum = c.smax ∧ mix c (fun _ => c.smax) = c.smax - 1

/-! ### Output driver and sequencer -/

/-- R322: I2S.IS_WRITABLE answers 1 exactly when at least two words fit. -/
def Obligations.I2sIsWritableNeedsTwoSlots : Prop :=
  ∀ s : State, s.halted = false →
    decode 0x7000 = .ok .i2sIsWritable ∧
    exec .i2sIsWritable s = .next { s with
      r0 := if s.txq.length + 2 ≤ s.cfg.q then 1 else 0, r1 := 0, phase := .idle }

/-- R321, R323: I2S.WRITE appends the left-aligned word of the low W bits of A, or on a full queue discards it and sets
TXOVER. -/
def Obligations.I2sWritePushesOrDiscards : Prop :=
  ∀ (s : State) (w : Word32), s.halted = false → s.cfg.Legal →
    w.toNat = s.a.toNat % 2 ^ s.cfg.w * 2 ^ (32 - s.cfg.w) →
    decode 0x7100 = .ok .i2sWrite ∧
    (s.txq.length < s.cfg.q →
      exec .i2sWrite s = .next { s with txq := s.txq ++ [w], r0 := 0, r1 := 0, phase := .idle }) ∧
    (s.cfg.q ≤ s.txq.length →
      exec .i2sWrite s = .next { s with txover := true, r0 := 0, r1 := 0, phase := .idle })

/-- R325, R327: the blocking writes push only when the queue has room, one word for I2S.WRITE_BLOCKING and the same word
twice, in two host steps, for I2S.WRITE_MONO_BLOCKING; while the queue is full they hold with no effect (the port keeps
the command, log 8). That R0 and R1 stay as they were at the first push of a mono write is the model's reading
(log 20). -/
def Obligations.I2sBlockingWritesHold : Prop :=
  ∀ (s : State) (w : Word32), s.halted = false → s.cfg.Legal →
    w.toNat = s.a.toNat % 2 ^ s.cfg.w * 2 ^ (32 - s.cfg.w) →
    decode 0x7200 = .ok .i2sWriteBlocking ∧ decode 0x7400 = .ok .i2sWriteMonoBlocking ∧
    (s.txq.length < s.cfg.q →
      exec .i2sWriteBlocking s = .next { s with txq := s.txq ++ [w], r0 := 0, r1 := 0, phase := .idle } ∧
      (s.phase ≠ .second →
        exec .i2sWriteMonoBlocking s = .next { s with txq := s.txq ++ [w], phase := .second }) ∧
      (s.phase = .second →
        exec .i2sWriteMonoBlocking s = .next { s with txq := s.txq ++ [w], r0 := 0, r1 := 0, phase := .idle })) ∧
    (s.cfg.q ≤ s.txq.length →
      exec .i2sWriteBlocking s = .next s ∧ exec .i2sWriteMonoBlocking s = .next s)

/-- R326: I2S.WRITE_MONO pushes the same word in two host steps, each push landing or setting TXOVER as R321 says; the
second completes the command. That R0 and R1 stay as they were at the first push is the model's reading (log 20). -/
def Obligations.I2sWriteMonoPushesTwice : Prop :=
  ∀ (s : State) (w : Word32), s.halted = false → s.cfg.Legal →
    w.toNat = s.a.toNat % 2 ^ s.cfg.w * 2 ^ (32 - s.cfg.w) →
    decode 0x7300 = .ok .i2sWriteMono ∧
    (s.phase ≠ .second → s.txq.length < s.cfg.q →
      exec .i2sWriteMono s = .next { s with txq := s.txq ++ [w], phase := .second }) ∧
    (s.phase ≠ .second → s.cfg.q ≤ s.txq.length →
      exec .i2sWriteMono s = .next { s with txover := true, phase := .second }) ∧
    (s.phase = .second → s.txq.length < s.cfg.q →
      exec .i2sWriteMono s = .next { s with txq := s.txq ++ [w], r0 := 0, r1 := 0, phase := .idle }) ∧
    (s.phase = .second → s.cfg.q ≤ s.txq.length →
      exec .i2sWriteMono s = .next { s with txover := true, r0 := 0, r1 := 0, phase := .idle })

/-- R328: I2S.STATUS answers the driver's and the sequencer's fields in the layout of R97. -/
def Obligations.I2sStatusShowsDriver : Prop :=
  ∀ s : State, s.halted = false → s.txq.length ≤ 255 →
    decode 0x7500 = .ok .i2sStatus ∧
    exec .i2sStatus s = .next { s with
      r0 := BitVec.ofNat 64 ((if s.txq.length + 2 ≤ s.cfg.q then 1 else 0) + 2 ^ 8 * s.txq.length +
        2 ^ 16 * s.txover.toNat +
        2 ^ 17 * (if s.seq.half = false ∧ s.seq.j = 0 ∧ s.seq.loaded = false ∧ s.txq = [] then 1 else 0))
      r1 := BitVec.ofNat 64 (s.seq.bclk.toNat + 2 * s.seq.ws.toNat + 2 ^ 2 * s.seq.data.toNat +
        2 ^ 3 * s.seq.ch.toNat + 2 ^ 8 * s.seq.j.toNat + 2 ^ 13 * s.seq.half.toNat + 2 ^ 14 * s.seq.loaded.toNat)
      phase := .idle }

/-- R73: the queue word of a sample has its W-bit pattern in the top W bits and zeros below, and gives the sample
back. -/
def Obligations.QueueWordIsLeftAligned : Prop :=
  ∀ (c : Config) (x : Int), c.Legal → c.IsSample x →
    LeftAligned c (txWord c x) ∧ IsSampleOf c ((txWord c x).toNat / 2 ^ (32 - c.w)) x

/-- R331, R332, R334, R335: from the start of a word, `2 * W` sequencer turns send the oldest word and no other: each
bit-time drives DATA and word-select with the bit clock low and holds them with it high, the bits a receiver samples
on the rising edges are the sample's, most significant first, and the next word goes to the other channel. -/
def Obligations.SerialWordRoundTrips : Prop :=
  ∀ (s : State) (x : Int) (rest : List Word32), s.halted = false → s.cfg.Legal → s.cfg.IsSample x →
    s.txq = txWord s.cfg x :: rest → s.seq.half = false → s.seq.j = 0 → s.seq.loaded = false →
    (receivedBits s).length = s.cfg.w ∧ IsSampleOf s.cfg (ofBits (receivedBits s)) x ∧
    (∀ k, k < s.cfg.w →
      (seqRun (2 * k + 1) s).seq.bclk = false ∧ (seqRun (2 * k + 2) s).seq.bclk = true ∧
      (seqRun (2 * k + 2) s).seq.data = (seqRun (2 * k + 1) s).seq.data ∧
      (seqRun (2 * k + 1) s).seq.ws = (if s.cfg.wsLead = true ∧ k = s.cfg.w - 1 then !s.seq.ch else s.seq.ch) ∧
      (seqRun (2 * k + 2) s).seq.ws = (seqRun (2 * k + 1) s).seq.ws) ∧
    (seqRun (2 * s.cfg.w) s).txq = rest ∧ (seqRun (2 * s.cfg.w) s).seq.ch = !s.seq.ch ∧
    (seqRun (2 * s.cfg.w) s).seq.j = 0 ∧ (seqRun (2 * s.cfg.w) s).seq.half = false ∧
    (seqRun (2 * s.cfg.w) s).seq.loaded = false

/-- R460: in any run without a reset that performs two I2S.WRITE commands issued when the gate is open and no other
push, however the sequencer's turns fall, no word is discarded, and the queue after it is the old queue and the two
words, in that order, less the `n` words at the front that the sequencer has taken, at most one in each of its turns of
the run. -/
def Obligations.OpenGateAdmitsStereoPair : Prop :=
  ∀ (k : Nat) (s t : State) (c1 c2 : Command) (rest : List Command),
    s.halted = false → s.txq.length + 2 ≤ s.cfg.q → s.phase = .idle → .reset ∉ s.turns →
    s.todo = c1 :: c2 :: rest → isWrite c1 = true → isWrite c2 = true →
    Host.Core.run Sys2Proof.core k s = .next t → t.todo = rest →
    t.txover = s.txover ∧
    ∃ n, n ≤ (s.turns.take k).count .sequencer ∧ t.txq.length + n = s.txq.length + 2 ∧
      t.txq = (s.txq ++ [txWord s.cfg (sampleOperand s.cfg c1.a), txWord s.cfg (sampleOperand s.cfg c2.a)]).drop n

/-! ### System status, configuration and reset -/

/-- R350: SYS.STATUS answers ILLEGAL, HALTED and CFG_ERR, halted or not, and changes nothing else. -/
def Obligations.SysStatusReportsErrors : Prop :=
  ∀ s : State,
    decode 0xF000 = .ok .sysStatus ∧
    exec .sysStatus s = .next { s with
      r0 := BitVec.ofNat 64 (s.illegal.toNat + 2 * s.halted.toNat + 2 ^ 8 * s.cfgErr.toNat), r1 := 0
      phase := .idle }

/-- R38, R333: the I2S pins show the sequencer's three levels, each row pin is high exactly when its row is energized,
and the column pins, being inputs, are not driven, where the keypad's pins are none of the I2S pins. -/
def Obligations.PinsShowRowAndSerialLines : Prop :=
  ∀ s : State, s.cfg.Legal →
    (∀ p ∈ s.cfg.rowPins.toList ++ s.cfg.colPins.toList, p ∉ [s.cfg.pinBclk, s.cfg.pinWs, s.cfg.pinData]) →
    s.pinLevel s.cfg.pinBclk = some s.seq.bclk ∧ s.pinLevel s.cfg.pinWs = some s.seq.ws ∧
    s.pinLevel s.cfg.pinData = some s.seq.data ∧
    (∀ r : BitVec 2, s.pinLevel (s.cfg.rowPins.toList.getD r.toNat 0) = some (decide (r = s.kp.row))) ∧
    (∀ p ∈ s.cfg.colPins.toList, s.pinLevel p = none)

/-- R451: the configuration code is the lowest whose condition holds, in the order of R451's table, and 0 when none
does; the state after reset reports it. (What code 10 covers is `Config.restLegal`, log 11.) -/
def Obligations.LowestConfigurationErrorReported : Prop :=
  ∀ (c : Config) (bad : List Bool),
    bad = [decide (c.rate ∉ [8000, 16000, 32000, 44100, 48000, 88200, 96000]),
      decide (c.w ∉ [16, 24, 32]),
      decide (c.pinWs ≠ c.pinBclk + 1 ∨ c.pinData ≠ c.pinBclk + 2),
      decide (¬ [c.rowPins.p0, c.rowPins.p1, c.rowPins.p2, c.rowPins.p3,
        c.colPins.p0, c.colPins.p1, c.colPins.p2, c.colPins.p3].Nodup),
      decide (c.k < 1 ∨ (∃ x ∈ c.levels, x ≤ 0) ∨ ∃ x ∈ c.weights, x = 0),
      !c.seqAvailable,
      decide ((∀ k ∈ List.range 17, 2 ≤ k → c.l ≠ 2 ^ k) ∨ c.sineTable.length ≠ c.l ∨
        ∃ y ∈ c.sineTable, y < c.smin ∨ c.smax < y),
      decide (c.n < 1 ∨ 32 < c.n),
      decide (c.q < 2 ∨ 255 < c.q),
      !c.restLegal] →
    (State.resetWith c).cfgErr.toNat = (if bad.all (!·) then 0 else bad.findIdx id + 1) ∧
    ((State.resetWith c).halted = true ↔ (State.resetWith c).cfgErr ≠ 0)

/-- R450: a reset sets every field of the block to its reset value, for every configuration, and keeps the
configuration. (That a reset is a turn, and what it leaves of the host's side, is the model's choice, log 6.) -/
def Obligations.ResetSetsEveryField : Prop :=
  ∀ (s : State) (ts : List Turn), s.turns = .reset :: ts →
    ∃ t : State, step s = .next t ∧ t.cfg = s.cfg ∧
      t.osc = List.replicate s.cfg.nOsc ⟨0, 0⟩ ∧ t.gf = List.replicate s.cfg.nGf ⟨0, false⟩ ∧
      t.qd = List.replicate s.cfg.nQd ⟨⟨0, false⟩, ⟨0, false⟩⟩ ∧
      t.kp.row = 0 ∧ t.kp.pressed = 0 ∧ t.kp.stack = [] ∧ t.kp.lastRel = none ∧ t.kp.changed = false ∧
      t.kp.stamp = 0 ∧ t.adsr = List.replicate s.cfg.nAdsr ⟨.off, 0⟩ ∧
      t.op = List.replicate s.cfg.nOp ⟨⟨0, 0⟩, ⟨.off, 0⟩, 0⟩ ∧ t.txq = [] ∧ t.txover = false ∧
      t.seq = ⟨0, false, 0, false, false, false, false, false⟩ ∧ t.illegal = false ∧
      t.cfgErr = s.cfg.errorCode ∧ t.halted = (s.cfg.errorCode != 0) ∧ t.todo = s.todo ∧ t.turns = ts

/-- R452: after reset with a legal configuration the block is not HALTED, the sequencer is as reset leaves it and the
queue is empty; and from every such state each step leaves the sequencer and the I2S pins as reset leaves them, stalled
while the queue is still empty, and enabled with the left channel next once a word is in it. (That a reset can be that
step is the model's choice, log 6.) -/
def Obligations.SequencerWaitsForFirstPush : Prop :=
  (∀ c : Config, c.Legal → (State.resetWith c).halted = false ∧ (State.resetWith c).seq = Sequencer.reset ∧
    (State.resetWith c).txq = []) ∧
  (∀ s t : State, s.halted = false → s.seq = Sequencer.reset → s.txq = [] → step s = .next t →
    t.seq = Sequencer.reset ∧ t.sideOutput = 0 ∧ t.seq.data = false ∧
    (t.txq = [] → t.stalled = true ∧ t.sequencerTurn = t) ∧
    (t.txq ≠ [] → t.seqEnabled = true ∧ t.seq.ch = false))

/-! ### Progress -/

/-- A step from a state whose port word and whose commands still to issue are none of ADSR.FEED, ADSR.TICK, OP.TICK and
OP.FEED_EVENT leads to a next state, and to one of the same kind (R402; the turns, the reset turn among them, are the
model's choice, log 2, log 6). -/
def Obligations.ContractFreeStepGoesOn : Prop :=
  ∀ s : State, wordHasContract s.cmd = false → (∀ c ∈ s.todo, wordHasContract c.cmd = false) →
    ∃ t : State, step s = .next t ∧ wordHasContract t.cmd = false ∧
      ∀ c ∈ t.todo, wordHasContract c.cmd = false

/-- R470 with R325, R327 and R413: a blocking write on the port completes on every schedule without a reset that is
weakly fair to the sequencer and gives the host a turn again and again, before any later command and with no word
discarded, however full the queue was. (That a schedule is a sequence of turns, and that a hold uses up the host's
turns, is the model's choice, log 2, log 8.) -/
def Obligations.FairSequencerLiftsHold : Prop :=
  ∀ (turn : Nat → Turn) (s : State), s.wf → s.halted = false → s.phase ≠ .idle →
    (decode s.cmd = .ok .i2sWriteBlocking ∨ decode s.cmd = .ok .i2sWriteMonoBlocking) →
    WeaklyFair turn s → (∀ n, ∃ m, n ≤ m ∧ turn m = .host) → (∀ n, turn n ≠ .reset) →
    ∃ (n : Nat) (t : State), runAlong turn s n = .next t ∧ t.phase = .idle ∧ t.cmd = s.cmd ∧ t.todo = s.todo ∧
      t.txover = s.txover
end

