-- ==== Sys2Proof/Laws/State.lean ====
section
/-! SUPPORT. One lemma per field per update of the state, each true by unfolding, so that no proof unfolds a record
update. -/

namespace Sys2Proof.Machine

@[simp] theorem State.respond_cfg (s : State) (r0 r1 : Bus) : (s.respond r0 r1).cfg = s.cfg := rfl
@[simp] theorem State.respond_osc (s : State) (r0 r1 : Bus) : (s.respond r0 r1).osc = s.osc := rfl
@[simp] theorem State.respond_gf (s : State) (r0 r1 : Bus) : (s.respond r0 r1).gf = s.gf := rfl
@[simp] theorem State.respond_qd (s : State) (r0 r1 : Bus) : (s.respond r0 r1).qd = s.qd := rfl
@[simp] theorem State.respond_kp (s : State) (r0 r1 : Bus) : (s.respond r0 r1).kp = s.kp := rfl
@[simp] theorem State.respond_adsr (s : State) (r0 r1 : Bus) : (s.respond r0 r1).adsr = s.adsr := rfl
@[simp] theorem State.respond_op (s : State) (r0 r1 : Bus) : (s.respond r0 r1).op = s.op := rfl
@[simp] theorem State.respond_txq (s : State) (r0 r1 : Bus) : (s.respond r0 r1).txq = s.txq := rfl
@[simp] theorem State.respond_txover (s : State) (r0 r1 : Bus) : (s.respond r0 r1).txover = s.txover := rfl
@[simp] theorem State.respond_seq (s : State) (r0 r1 : Bus) : (s.respond r0 r1).seq = s.seq := rfl
@[simp] theorem State.respond_illegal (s : State) (r0 r1 : Bus) : (s.respond r0 r1).illegal = s.illegal := rfl
@[simp] theorem State.respond_cfgErr (s : State) (r0 r1 : Bus) : (s.respond r0 r1).cfgErr = s.cfgErr := rfl
@[simp] theorem State.respond_halted (s : State) (r0 r1 : Bus) : (s.respond r0 r1).halted = s.halted := rfl
@[simp] theorem State.respond_cmd (s : State) (r0 r1 : Bus) : (s.respond r0 r1).cmd = s.cmd := rfl
@[simp] theorem State.respond_a (s : State) (r0 r1 : Bus) : (s.respond r0 r1).a = s.a := rfl
@[simp] theorem State.respond_b (s : State) (r0 r1 : Bus) : (s.respond r0 r1).b = s.b := rfl
@[simp] theorem State.respond_v (s : State) (r0 r1 : Bus) : (s.respond r0 r1).v = s.v := rfl
@[simp] theorem State.respond_r0 (s : State) (r0 r1 : Bus) : (s.respond r0 r1).r0 = r0 := rfl
@[simp] theorem State.respond_r1 (s : State) (r0 r1 : Bus) : (s.respond r0 r1).r1 = r1 := rfl
@[simp] theorem State.respond_phase (s : State) (r0 r1 : Bus) : (s.respond r0 r1).phase = .idle := rfl
@[simp] theorem State.respond_todo (s : State) (r0 r1 : Bus) : (s.respond r0 r1).todo = s.todo := rfl
@[simp] theorem State.respond_turns (s : State) (r0 r1 : Bus) : (s.respond r0 r1).turns = s.turns := rfl

@[simp] theorem State.done_cfg (s : State) : s.done.cfg = s.cfg := rfl
@[simp] theorem State.done_osc (s : State) : s.done.osc = s.osc := rfl
@[simp] theorem State.done_gf (s : State) : s.done.gf = s.gf := rfl
@[simp] theorem State.done_qd (s : State) : s.done.qd = s.qd := rfl
@[simp] theorem State.done_kp (s : State) : s.done.kp = s.kp := rfl
@[simp] theorem State.done_adsr (s : State) : s.done.adsr = s.adsr := rfl
@[simp] theorem State.done_op (s : State) : s.done.op = s.op := rfl
@[simp] theorem State.done_txq (s : State) : s.done.txq = s.txq := rfl
@[simp] theorem State.done_txover (s : State) : s.done.txover = s.txover := rfl
@[simp] theorem State.done_seq (s : State) : s.done.seq = s.seq := rfl
@[simp] theorem State.done_illegal (s : State) : s.done.illegal = s.illegal := rfl
@[simp] theorem State.done_cfgErr (s : State) : s.done.cfgErr = s.cfgErr := rfl
@[simp] theorem State.done_halted (s : State) : s.done.halted = s.halted := rfl
@[simp] theorem State.done_cmd (s : State) : s.done.cmd = s.cmd := rfl
@[simp] theorem State.done_a (s : State) : s.done.a = s.a := rfl
@[simp] theorem State.done_b (s : State) : s.done.b = s.b := rfl
@[simp] theorem State.done_v (s : State) : s.done.v = s.v := rfl
@[simp] theorem State.done_r0 (s : State) : s.done.r0 = 0 := rfl
@[simp] theorem State.done_r1 (s : State) : s.done.r1 = 0 := rfl
@[simp] theorem State.done_phase (s : State) : s.done.phase = .idle := rfl
@[simp] theorem State.done_todo (s : State) : s.done.todo = s.todo := rfl
@[simp] theorem State.done_turns (s : State) : s.done.turns = s.turns := rfl

@[simp] theorem State.raiseIllegal_cfg (s : State) : s.raiseIllegal.cfg = s.cfg := rfl
@[simp] theorem State.raiseIllegal_osc (s : State) : s.raiseIllegal.osc = s.osc := rfl
@[simp] theorem State.raiseIllegal_gf (s : State) : s.raiseIllegal.gf = s.gf := rfl
@[simp] theorem State.raiseIllegal_qd (s : State) : s.raiseIllegal.qd = s.qd := rfl
@[simp] theorem State.raiseIllegal_kp (s : State) : s.raiseIllegal.kp = s.kp := rfl
@[simp] theorem State.raiseIllegal_adsr (s : State) : s.raiseIllegal.adsr = s.adsr := rfl
@[simp] theorem State.raiseIllegal_op (s : State) : s.raiseIllegal.op = s.op := rfl
@[simp] theorem State.raiseIllegal_txq (s : State) : s.raiseIllegal.txq = s.txq := rfl
@[simp] theorem State.raiseIllegal_txover (s : State) : s.raiseIllegal.txover = s.txover := rfl
@[simp] theorem State.raiseIllegal_seq (s : State) : s.raiseIllegal.seq = s.seq := rfl
@[simp] theorem State.raiseIllegal_illegal (s : State) : s.raiseIllegal.illegal = true := rfl
@[simp] theorem State.raiseIllegal_cfgErr (s : State) : s.raiseIllegal.cfgErr = s.cfgErr := rfl
@[simp] theorem State.raiseIllegal_halted (s : State) : s.raiseIllegal.halted = s.halted := rfl
@[simp] theorem State.raiseIllegal_cmd (s : State) : s.raiseIllegal.cmd = s.cmd := rfl
@[simp] theorem State.raiseIllegal_a (s : State) : s.raiseIllegal.a = s.a := rfl
@[simp] theorem State.raiseIllegal_b (s : State) : s.raiseIllegal.b = s.b := rfl
@[simp] theorem State.raiseIllegal_v (s : State) : s.raiseIllegal.v = s.v := rfl
@[simp] theorem State.raiseIllegal_r0 (s : State) : s.raiseIllegal.r0 = 0 := rfl
@[simp] theorem State.raiseIllegal_r1 (s : State) : s.raiseIllegal.r1 = 0 := rfl
@[simp] theorem State.raiseIllegal_phase (s : State) : s.raiseIllegal.phase = .idle := rfl
@[simp] theorem State.raiseIllegal_todo (s : State) : s.raiseIllegal.todo = s.todo := rfl
@[simp] theorem State.raiseIllegal_turns (s : State) : s.raiseIllegal.turns = s.turns := rfl

@[simp] theorem State.setOsc_cfg (s : State) (i : Inst) (x : Osc) : (s.setOsc i x).cfg = s.cfg := rfl
@[simp] theorem State.setOsc_osc (s : State) (i : Inst) (x : Osc) : (s.setOsc i x).osc = s.osc.set i.toNat x := rfl
@[simp] theorem State.setOsc_gf (s : State) (i : Inst) (x : Osc) : (s.setOsc i x).gf = s.gf := rfl
@[simp] theorem State.setOsc_qd (s : State) (i : Inst) (x : Osc) : (s.setOsc i x).qd = s.qd := rfl
@[simp] theorem State.setOsc_kp (s : State) (i : Inst) (x : Osc) : (s.setOsc i x).kp = s.kp := rfl
@[simp] theorem State.setOsc_adsr (s : State) (i : Inst) (x : Osc) : (s.setOsc i x).adsr = s.adsr := rfl
@[simp] theorem State.setOsc_op (s : State) (i : Inst) (x : Osc) : (s.setOsc i x).op = s.op := rfl
@[simp] theorem State.setOsc_txq (s : State) (i : Inst) (x : Osc) : (s.setOsc i x).txq = s.txq := rfl
@[simp] theorem State.setOsc_txover (s : State) (i : Inst) (x : Osc) : (s.setOsc i x).txover = s.txover := rfl
@[simp] theorem State.setOsc_seq (s : State) (i : Inst) (x : Osc) : (s.setOsc i x).seq = s.seq := rfl
@[simp] theorem State.setOsc_illegal (s : State) (i : Inst) (x : Osc) : (s.setOsc i x).illegal = s.illegal := rfl
@[simp] theorem State.setOsc_cfgErr (s : State) (i : Inst) (x : Osc) : (s.setOsc i x).cfgErr = s.cfgErr := rfl
@[simp] theorem State.setOsc_halted (s : State) (i : Inst) (x : Osc) : (s.setOsc i x).halted = s.halted := rfl
@[simp] theorem State.setOsc_cmd (s : State) (i : Inst) (x : Osc) : (s.setOsc i x).cmd = s.cmd := rfl
@[simp] theorem State.setOsc_a (s : State) (i : Inst) (x : Osc) : (s.setOsc i x).a = s.a := rfl
@[simp] theorem State.setOsc_b (s : State) (i : Inst) (x : Osc) : (s.setOsc i x).b = s.b := rfl
@[simp] theorem State.setOsc_v (s : State) (i : Inst) (x : Osc) : (s.setOsc i x).v = s.v := rfl
@[simp] theorem State.setOsc_r0 (s : State) (i : Inst) (x : Osc) : (s.setOsc i x).r0 = s.r0 := rfl
@[simp] theorem State.setOsc_r1 (s : State) (i : Inst) (x : Osc) : (s.setOsc i x).r1 = s.r1 := rfl
@[simp] theorem State.setOsc_phase (s : State) (i : Inst) (x : Osc) : (s.setOsc i x).phase = s.phase := rfl
@[simp] theorem State.setOsc_todo (s : State) (i : Inst) (x : Osc) : (s.setOsc i x).todo = s.todo := rfl
@[simp] theorem State.setOsc_turns (s : State) (i : Inst) (x : Osc) : (s.setOsc i x).turns = s.turns := rfl

@[simp] theorem State.setGf_cfg (s : State) (i : Inst) (x : Filter) : (s.setGf i x).cfg = s.cfg := rfl
@[simp] theorem State.setGf_osc (s : State) (i : Inst) (x : Filter) : (s.setGf i x).osc = s.osc := rfl
@[simp] theorem State.setGf_gf (s : State) (i : Inst) (x : Filter) : (s.setGf i x).gf = s.gf.set i.toNat x := rfl
@[simp] theorem State.setGf_qd (s : State) (i : Inst) (x : Filter) : (s.setGf i x).qd = s.qd := rfl
@[simp] theorem State.setGf_kp (s : State) (i : Inst) (x : Filter) : (s.setGf i x).kp = s.kp := rfl
@[simp] theorem State.setGf_adsr (s : State) (i : Inst) (x : Filter) : (s.setGf i x).adsr = s.adsr := rfl
@[simp] theorem State.setGf_op (s : State) (i : Inst) (x : Filter) : (s.setGf i x).op = s.op := rfl
@[simp] theorem State.setGf_txq (s : State) (i : Inst) (x : Filter) : (s.setGf i x).txq = s.txq := rfl
@[simp] theorem State.setGf_txover (s : State) (i : Inst) (x : Filter) : (s.setGf i x).txover = s.txover := rfl
@[simp] theorem State.setGf_seq (s : State) (i : Inst) (x : Filter) : (s.setGf i x).seq = s.seq := rfl
@[simp] theorem State.setGf_illegal (s : State) (i : Inst) (x : Filter) : (s.setGf i x).illegal = s.illegal := rfl
@[simp] theorem State.setGf_cfgErr (s : State) (i : Inst) (x : Filter) : (s.setGf i x).cfgErr = s.cfgErr := rfl
@[simp] theorem State.setGf_halted (s : State) (i : Inst) (x : Filter) : (s.setGf i x).halted = s.halted := rfl
@[simp] theorem State.setGf_cmd (s : State) (i : Inst) (x : Filter) : (s.setGf i x).cmd = s.cmd := rfl
@[simp] theorem State.setGf_a (s : State) (i : Inst) (x : Filter) : (s.setGf i x).a = s.a := rfl
@[simp] theorem State.setGf_b (s : State) (i : Inst) (x : Filter) : (s.setGf i x).b = s.b := rfl
@[simp] theorem State.setGf_v (s : State) (i : Inst) (x : Filter) : (s.setGf i x).v = s.v := rfl
@[simp] theorem State.setGf_r0 (s : State) (i : Inst) (x : Filter) : (s.setGf i x).r0 = s.r0 := rfl
@[simp] theorem State.setGf_r1 (s : State) (i : Inst) (x : Filter) : (s.setGf i x).r1 = s.r1 := rfl
@[simp] theorem State.setGf_phase (s : State) (i : Inst) (x : Filter) : (s.setGf i x).phase = s.phase := rfl
@[simp] theorem State.setGf_todo (s : State) (i : Inst) (x : Filter) : (s.setGf i x).todo = s.todo := rfl
@[simp] theorem State.setGf_turns (s : State) (i : Inst) (x : Filter) : (s.setGf i x).turns = s.turns := rfl

@[simp] theorem State.setQd_cfg (s : State) (i : Inst) (x : Quadrature) : (s.setQd i x).cfg = s.cfg := rfl
@[simp] theorem State.setQd_osc (s : State) (i : Inst) (x : Quadrature) : (s.setQd i x).osc = s.osc := rfl
@[simp] theorem State.setQd_gf (s : State) (i : Inst) (x : Quadrature) : (s.setQd i x).gf = s.gf := rfl
@[simp] theorem State.setQd_qd (s : State) (i : Inst) (x : Quadrature) : (s.setQd i x).qd = s.qd.set i.toNat x := rfl
@[simp] theorem State.setQd_kp (s : State) (i : Inst) (x : Quadrature) : (s.setQd i x).kp = s.kp := rfl
@[simp] theorem State.setQd_adsr (s : State) (i : Inst) (x : Quadrature) : (s.setQd i x).adsr = s.adsr := rfl
@[simp] theorem State.setQd_op (s : State) (i : Inst) (x : Quadrature) : (s.setQd i x).op = s.op := rfl
@[simp] theorem State.setQd_txq (s : State) (i : Inst) (x : Quadrature) : (s.setQd i x).txq = s.txq := rfl
@[simp] theorem State.setQd_txover (s : State) (i : Inst) (x : Quadrature) : (s.setQd i x).txover = s.txover := rfl
@[simp] theorem State.setQd_seq (s : State) (i : Inst) (x : Quadrature) : (s.setQd i x).seq = s.seq := rfl
@[simp] theorem State.setQd_illegal (s : State) (i : Inst) (x : Quadrature) : (s.setQd i x).illegal = s.illegal := rfl
@[simp] theorem State.setQd_cfgErr (s : State) (i : Inst) (x : Quadrature) : (s.setQd i x).cfgErr = s.cfgErr := rfl
@[simp] theorem State.setQd_halted (s : State) (i : Inst) (x : Quadrature) : (s.setQd i x).halted = s.halted := rfl
@[simp] theorem State.setQd_cmd (s : State) (i : Inst) (x : Quadrature) : (s.setQd i x).cmd = s.cmd := rfl
@[simp] theorem State.setQd_a (s : State) (i : Inst) (x : Quadrature) : (s.setQd i x).a = s.a := rfl
@[simp] theorem State.setQd_b (s : State) (i : Inst) (x : Quadrature) : (s.setQd i x).b = s.b := rfl
@[simp] theorem State.setQd_v (s : State) (i : Inst) (x : Quadrature) : (s.setQd i x).v = s.v := rfl
@[simp] theorem State.setQd_r0 (s : State) (i : Inst) (x : Quadrature) : (s.setQd i x).r0 = s.r0 := rfl
@[simp] theorem State.setQd_r1 (s : State) (i : Inst) (x : Quadrature) : (s.setQd i x).r1 = s.r1 := rfl
@[simp] theorem State.setQd_phase (s : State) (i : Inst) (x : Quadrature) : (s.setQd i x).phase = s.phase := rfl
@[simp] theorem State.setQd_todo (s : State) (i : Inst) (x : Quadrature) : (s.setQd i x).todo = s.todo := rfl
@[simp] theorem State.setQd_turns (s : State) (i : Inst) (x : Quadrature) : (s.setQd i x).turns = s.turns := rfl

@[simp] theorem State.setKp_cfg (s : State) (x : Keypad) : (s.setKp x).cfg = s.cfg := rfl
@[simp] theorem State.setKp_osc (s : State) (x : Keypad) : (s.setKp x).osc = s.osc := rfl
@[simp] theorem State.setKp_gf (s : State) (x : Keypad) : (s.setKp x).gf = s.gf := rfl
@[simp] theorem State.setKp_qd (s : State) (x : Keypad) : (s.setKp x).qd = s.qd := rfl
@[simp] theorem State.setKp_kp (s : State) (x : Keypad) : (s.setKp x).kp = x := rfl
@[simp] theorem State.setKp_adsr (s : State) (x : Keypad) : (s.setKp x).adsr = s.adsr := rfl
@[simp] theorem State.setKp_op (s : State) (x : Keypad) : (s.setKp x).op = s.op := rfl
@[simp] theorem State.setKp_txq (s : State) (x : Keypad) : (s.setKp x).txq = s.txq := rfl
@[simp] theorem State.setKp_txover (s : State) (x : Keypad) : (s.setKp x).txover = s.txover := rfl
@[simp] theorem State.setKp_seq (s : State) (x : Keypad) : (s.setKp x).seq = s.seq := rfl
@[simp] theorem State.setKp_illegal (s : State) (x : Keypad) : (s.setKp x).illegal = s.illegal := rfl
@[simp] theorem State.setKp_cfgErr (s : State) (x : Keypad) : (s.setKp x).cfgErr = s.cfgErr := rfl
@[simp] theorem State.setKp_halted (s : State) (x : Keypad) : (s.setKp x).halted = s.halted := rfl
@[simp] theorem State.setKp_cmd (s : State) (x : Keypad) : (s.setKp x).cmd = s.cmd := rfl
@[simp] theorem State.setKp_a (s : State) (x : Keypad) : (s.setKp x).a = s.a := rfl
@[simp] theorem State.setKp_b (s : State) (x : Keypad) : (s.setKp x).b = s.b := rfl
@[simp] theorem State.setKp_v (s : State) (x : Keypad) : (s.setKp x).v = s.v := rfl
@[simp] theorem State.setKp_r0 (s : State) (x : Keypad) : (s.setKp x).r0 = s.r0 := rfl
@[simp] theorem State.setKp_r1 (s : State) (x : Keypad) : (s.setKp x).r1 = s.r1 := rfl
@[simp] theorem State.setKp_phase (s : State) (x : Keypad) : (s.setKp x).phase = s.phase := rfl
@[simp] theorem State.setKp_todo (s : State) (x : Keypad) : (s.setKp x).todo = s.todo := rfl
@[simp] theorem State.setKp_turns (s : State) (x : Keypad) : (s.setKp x).turns = s.turns := rfl

@[simp] theorem State.setAdsr_cfg (s : State) (i : Inst) (x : Adsr) : (s.setAdsr i x).cfg = s.cfg := rfl
@[simp] theorem State.setAdsr_osc (s : State) (i : Inst) (x : Adsr) : (s.setAdsr i x).osc = s.osc := rfl
@[simp] theorem State.setAdsr_gf (s : State) (i : Inst) (x : Adsr) : (s.setAdsr i x).gf = s.gf := rfl
@[simp] theorem State.setAdsr_qd (s : State) (i : Inst) (x : Adsr) : (s.setAdsr i x).qd = s.qd := rfl
@[simp] theorem State.setAdsr_kp (s : State) (i : Inst) (x : Adsr) : (s.setAdsr i x).kp = s.kp := rfl
@[simp] theorem State.setAdsr_adsr (s : State) (i : Inst) (x : Adsr) : (s.setAdsr i x).adsr = s.adsr.set i.toNat x := rfl
@[simp] theorem State.setAdsr_op (s : State) (i : Inst) (x : Adsr) : (s.setAdsr i x).op = s.op := rfl
@[simp] theorem State.setAdsr_txq (s : State) (i : Inst) (x : Adsr) : (s.setAdsr i x).txq = s.txq := rfl
@[simp] theorem State.setAdsr_txover (s : State) (i : Inst) (x : Adsr) : (s.setAdsr i x).txover = s.txover := rfl
@[simp] theorem State.setAdsr_seq (s : State) (i : Inst) (x : Adsr) : (s.setAdsr i x).seq = s.seq := rfl
@[simp] theorem State.setAdsr_illegal (s : State) (i : Inst) (x : Adsr) : (s.setAdsr i x).illegal = s.illegal := rfl
@[simp] theorem State.setAdsr_cfgErr (s : State) (i : Inst) (x : Adsr) : (s.setAdsr i x).cfgErr = s.cfgErr := rfl
@[simp] theorem State.setAdsr_halted (s : State) (i : Inst) (x : Adsr) : (s.setAdsr i x).halted = s.halted := rfl
@[simp] theorem State.setAdsr_cmd (s : State) (i : Inst) (x : Adsr) : (s.setAdsr i x).cmd = s.cmd := rfl
@[simp] theorem State.setAdsr_a (s : State) (i : Inst) (x : Adsr) : (s.setAdsr i x).a = s.a := rfl
@[simp] theorem State.setAdsr_b (s : State) (i : Inst) (x : Adsr) : (s.setAdsr i x).b = s.b := rfl
@[simp] theorem State.setAdsr_v (s : State) (i : Inst) (x : Adsr) : (s.setAdsr i x).v = s.v := rfl
@[simp] theorem State.setAdsr_r0 (s : State) (i : Inst) (x : Adsr) : (s.setAdsr i x).r0 = s.r0 := rfl
@[simp] theorem State.setAdsr_r1 (s : State) (i : Inst) (x : Adsr) : (s.setAdsr i x).r1 = s.r1 := rfl
@[simp] theorem State.setAdsr_phase (s : State) (i : Inst) (x : Adsr) : (s.setAdsr i x).phase = s.phase := rfl
@[simp] theorem State.setAdsr_todo (s : State) (i : Inst) (x : Adsr) : (s.setAdsr i x).todo = s.todo := rfl
@[simp] theorem State.setAdsr_turns (s : State) (i : Inst) (x : Adsr) : (s.setAdsr i x).turns = s.turns := rfl

@[simp] theorem State.setOp_cfg (s : State) (i : Inst) (x : Operator) : (s.setOp i x).cfg = s.cfg := rfl
@[simp] theorem State.setOp_osc (s : State) (i : Inst) (x : Operator) : (s.setOp i x).osc = s.osc := rfl
@[simp] theorem State.setOp_gf (s : State) (i : Inst) (x : Operator) : (s.setOp i x).gf = s.gf := rfl
@[simp] theorem State.setOp_qd (s : State) (i : Inst) (x : Operator) : (s.setOp i x).qd = s.qd := rfl
@[simp] theorem State.setOp_kp (s : State) (i : Inst) (x : Operator) : (s.setOp i x).kp = s.kp := rfl
@[simp] theorem State.setOp_adsr (s : State) (i : Inst) (x : Operator) : (s.setOp i x).adsr = s.adsr := rfl
@[simp] theorem State.setOp_op (s : State) (i : Inst) (x : Operator) : (s.setOp i x).op = s.op.set i.toNat x := rfl
@[simp] theorem State.setOp_txq (s : State) (i : Inst) (x : Operator) : (s.setOp i x).txq = s.txq := rfl
@[simp] theorem State.setOp_txover (s : State) (i : Inst) (x : Operator) : (s.setOp i x).txover = s.txover := rfl
@[simp] theorem State.setOp_seq (s : State) (i : Inst) (x : Operator) : (s.setOp i x).seq = s.seq := rfl
@[simp] theorem State.setOp_illegal (s : State) (i : Inst) (x : Operator) : (s.setOp i x).illegal = s.illegal := rfl
@[simp] theorem State.setOp_cfgErr (s : State) (i : Inst) (x : Operator) : (s.setOp i x).cfgErr = s.cfgErr := rfl
@[simp] theorem State.setOp_halted (s : State) (i : Inst) (x : Operator) : (s.setOp i x).halted = s.halted := rfl
@[simp] theorem State.setOp_cmd (s : State) (i : Inst) (x : Operator) : (s.setOp i x).cmd = s.cmd := rfl
@[simp] theorem State.setOp_a (s : State) (i : Inst) (x : Operator) : (s.setOp i x).a = s.a := rfl
@[simp] theorem State.setOp_b (s : State) (i : Inst) (x : Operator) : (s.setOp i x).b = s.b := rfl
@[simp] theorem State.setOp_v (s : State) (i : Inst) (x : Operator) : (s.setOp i x).v = s.v := rfl
@[simp] theorem State.setOp_r0 (s : State) (i : Inst) (x : Operator) : (s.setOp i x).r0 = s.r0 := rfl
@[simp] theorem State.setOp_r1 (s : State) (i : Inst) (x : Operator) : (s.setOp i x).r1 = s.r1 := rfl
@[simp] theorem State.setOp_phase (s : State) (i : Inst) (x : Operator) : (s.setOp i x).phase = s.phase := rfl
@[simp] theorem State.setOp_todo (s : State) (i : Inst) (x : Operator) : (s.setOp i x).todo = s.todo := rfl
@[simp] theorem State.setOp_turns (s : State) (i : Inst) (x : Operator) : (s.setOp i x).turns = s.turns := rfl

@[simp] theorem State.issue_cfg (s : State) (c : Command) (rest : List Command) : (s.issue c rest).cfg = s.cfg := rfl
@[simp] theorem State.issue_osc (s : State) (c : Command) (rest : List Command) : (s.issue c rest).osc = s.osc := rfl
@[simp] theorem State.issue_gf (s : State) (c : Command) (rest : List Command) : (s.issue c rest).gf = s.gf := rfl
@[simp] theorem State.issue_qd (s : State) (c : Command) (rest : List Command) : (s.issue c rest).qd = s.qd := rfl
@[simp] theorem State.issue_kp (s : State) (c : Command) (rest : List Command) : (s.issue c rest).kp = s.kp := rfl
@[simp] theorem State.issue_adsr (s : State) (c : Command) (rest : List Command) : (s.issue c rest).adsr = s.adsr := rfl
@[simp] theorem State.issue_op (s : State) (c : Command) (rest : List Command) : (s.issue c rest).op = s.op := rfl
@[simp] theorem State.issue_txq (s : State) (c : Command) (rest : List Command) : (s.issue c rest).txq = s.txq := rfl
@[simp] theorem State.issue_txover (s : State) (c : Command) (rest : List Command) : (s.issue c rest).txover = s.txover := rfl
@[simp] theorem State.issue_seq (s : State) (c : Command) (rest : List Command) : (s.issue c rest).seq = s.seq := rfl
@[simp] theorem State.issue_illegal (s : State) (c : Command) (rest : List Command) : (s.issue c rest).illegal = s.illegal := rfl
@[simp] theorem State.issue_cfgErr (s : State) (c : Command) (rest : List Command) : (s.issue c rest).cfgErr = s.cfgErr := rfl
@[simp] theorem State.issue_halted (s : State) (c : Command) (rest : List Command) : (s.issue c rest).halted = s.halted := rfl
@[simp] theorem State.issue_cmd (s : State) (c : Command) (rest : List Command) : (s.issue c rest).cmd = c.cmd := rfl
@[simp] theorem State.issue_a (s : State) (c : Command) (rest : List Command) : (s.issue c rest).a = c.a := rfl
@[simp] theorem State.issue_b (s : State) (c : Command) (rest : List Command) : (s.issue c rest).b = c.b := rfl
@[simp] theorem State.issue_v (s : State) (c : Command) (rest : List Command) : (s.issue c rest).v = c.v := rfl
@[simp] theorem State.issue_r0 (s : State) (c : Command) (rest : List Command) : (s.issue c rest).r0 = s.r0 := rfl
@[simp] theorem State.issue_r1 (s : State) (c : Command) (rest : List Command) : (s.issue c rest).r1 = s.r1 := rfl
@[simp] theorem State.issue_phase (s : State) (c : Command) (rest : List Command) : (s.issue c rest).phase = .active := rfl
@[simp] theorem State.issue_todo (s : State) (c : Command) (rest : List Command) : (s.issue c rest).todo = rest := rfl
@[simp] theorem State.issue_turns (s : State) (c : Command) (rest : List Command) : (s.issue c rest).turns = s.turns := rfl

@[simp] theorem State.lowHalf_cfg (s : State) : s.lowHalf.cfg = s.cfg := rfl
@[simp] theorem State.lowHalf_osc (s : State) : s.lowHalf.osc = s.osc := rfl
@[simp] theorem State.lowHalf_gf (s : State) : s.lowHalf.gf = s.gf := rfl
@[simp] theorem State.lowHalf_qd (s : State) : s.lowHalf.qd = s.qd := rfl
@[simp] theorem State.lowHalf_kp (s : State) : s.lowHalf.kp = s.kp := rfl
@[simp] theorem State.lowHalf_adsr (s : State) : s.lowHalf.adsr = s.adsr := rfl
@[simp] theorem State.lowHalf_op (s : State) : s.lowHalf.op = s.op := rfl
@[simp] theorem State.lowHalf_txq (s : State) : s.lowHalf.txq = s.txq := rfl
@[simp] theorem State.lowHalf_txover (s : State) : s.lowHalf.txover = s.txover := rfl
@[simp] theorem State.lowHalf_illegal (s : State) : s.lowHalf.illegal = s.illegal := rfl
@[simp] theorem State.lowHalf_cfgErr (s : State) : s.lowHalf.cfgErr = s.cfgErr := rfl
@[simp] theorem State.lowHalf_halted (s : State) : s.lowHalf.halted = s.halted := rfl
@[simp] theorem State.lowHalf_cmd (s : State) : s.lowHalf.cmd = s.cmd := rfl
@[simp] theorem State.lowHalf_a (s : State) : s.lowHalf.a = s.a := rfl
@[simp] theorem State.lowHalf_b (s : State) : s.lowHalf.b = s.b := rfl
@[simp] theorem State.lowHalf_v (s : State) : s.lowHalf.v = s.v := rfl
@[simp] theorem State.lowHalf_r0 (s : State) : s.lowHalf.r0 = s.r0 := rfl
@[simp] theorem State.lowHalf_r1 (s : State) : s.lowHalf.r1 = s.r1 := rfl
@[simp] theorem State.lowHalf_phase (s : State) : s.lowHalf.phase = s.phase := rfl
@[simp] theorem State.lowHalf_todo (s : State) : s.lowHalf.todo = s.todo := rfl
@[simp] theorem State.lowHalf_turns (s : State) : s.lowHalf.turns = s.turns := rfl

@[simp] theorem State.resetBlock_cfg (s : State) : s.resetBlock.cfg = s.cfg := rfl
@[simp] theorem State.resetBlock_todo (s : State) : s.resetBlock.todo = s.todo := rfl
@[simp] theorem State.resetBlock_turns (s : State) : s.resetBlock.turns = s.turns := rfl
@[simp] theorem State.resetBlock_osc (s : State) : s.resetBlock.osc = (State.resetWith s.cfg).osc := rfl
@[simp] theorem State.resetBlock_gf (s : State) : s.resetBlock.gf = (State.resetWith s.cfg).gf := rfl
@[simp] theorem State.resetBlock_qd (s : State) : s.resetBlock.qd = (State.resetWith s.cfg).qd := rfl
@[simp] theorem State.resetBlock_kp (s : State) : s.resetBlock.kp = (State.resetWith s.cfg).kp := rfl
@[simp] theorem State.resetBlock_adsr (s : State) : s.resetBlock.adsr = (State.resetWith s.cfg).adsr := rfl
@[simp] theorem State.resetBlock_op (s : State) : s.resetBlock.op = (State.resetWith s.cfg).op := rfl
@[simp] theorem State.resetBlock_txq (s : State) : s.resetBlock.txq = (State.resetWith s.cfg).txq := rfl
@[simp] theorem State.resetBlock_txover (s : State) : s.resetBlock.txover = (State.resetWith s.cfg).txover := rfl
@[simp] theorem State.resetBlock_seq (s : State) : s.resetBlock.seq = (State.resetWith s.cfg).seq := rfl
@[simp] theorem State.resetBlock_illegal (s : State) : s.resetBlock.illegal = (State.resetWith s.cfg).illegal := rfl
@[simp] theorem State.resetBlock_cfgErr (s : State) : s.resetBlock.cfgErr = (State.resetWith s.cfg).cfgErr := rfl
@[simp] theorem State.resetBlock_halted (s : State) : s.resetBlock.halted = (State.resetWith s.cfg).halted := rfl
@[simp] theorem State.resetBlock_cmd (s : State) : s.resetBlock.cmd = (State.resetWith s.cfg).cmd := rfl
@[simp] theorem State.resetBlock_a (s : State) : s.resetBlock.a = (State.resetWith s.cfg).a := rfl
@[simp] theorem State.resetBlock_b (s : State) : s.resetBlock.b = (State.resetWith s.cfg).b := rfl
@[simp] theorem State.resetBlock_v (s : State) : s.resetBlock.v = (State.resetWith s.cfg).v := rfl
@[simp] theorem State.resetBlock_r0 (s : State) : s.resetBlock.r0 = (State.resetWith s.cfg).r0 := rfl
@[simp] theorem State.resetBlock_r1 (s : State) : s.resetBlock.r1 = (State.resetWith s.cfg).r1 := rfl
@[simp] theorem State.resetBlock_phase (s : State) : s.resetBlock.phase = (State.resetWith s.cfg).phase := rfl

@[simp] theorem State.push_cfg (s : State) (w : Word32) : (s.push w).cfg = s.cfg := by unfold State.push; split <;> rfl
@[simp] theorem State.push_osc (s : State) (w : Word32) : (s.push w).osc = s.osc := by unfold State.push; split <;> rfl
@[simp] theorem State.push_gf (s : State) (w : Word32) : (s.push w).gf = s.gf := by unfold State.push; split <;> rfl
@[simp] theorem State.push_qd (s : State) (w : Word32) : (s.push w).qd = s.qd := by unfold State.push; split <;> rfl
@[simp] theorem State.push_kp (s : State) (w : Word32) : (s.push w).kp = s.kp := by unfold State.push; split <;> rfl
@[simp] theorem State.push_adsr (s : State) (w : Word32) : (s.push w).adsr = s.adsr := by unfold State.push; split <;> rfl
@[simp] theorem State.push_op (s : State) (w : Word32) : (s.push w).op = s.op := by unfold State.push; split <;> rfl
@[simp] theorem State.push_seq (s : State) (w : Word32) : (s.push w).seq = s.seq := by unfold State.push; split <;> rfl
@[simp] theorem State.push_illegal (s : State) (w : Word32) : (s.push w).illegal = s.illegal := by unfold State.push; split <;> rfl
@[simp] theorem State.push_cfgErr (s : State) (w : Word32) : (s.push w).cfgErr = s.cfgErr := by unfold State.push; split <;> rfl
@[simp] theorem State.push_halted (s : State) (w : Word32) : (s.push w).halted = s.halted := by unfold State.push; split <;> rfl
@[simp] theorem State.push_cmd (s : State) (w : Word32) : (s.push w).cmd = s.cmd := by unfold State.push; split <;> rfl
@[simp] theorem State.push_a (s : State) (w : Word32) : (s.push w).a = s.a := by unfold State.push; split <;> rfl
@[simp] theorem State.push_b (s : State) (w : Word32) : (s.push w).b = s.b := by unfold State.push; split <;> rfl
@[simp] theorem State.push_v (s : State) (w : Word32) : (s.push w).v = s.v := by unfold State.push; split <;> rfl
@[simp] theorem State.push_r0 (s : State) (w : Word32) : (s.push w).r0 = s.r0 := by unfold State.push; split <;> rfl
@[simp] theorem State.push_r1 (s : State) (w : Word32) : (s.push w).r1 = s.r1 := by unfold State.push; split <;> rfl
@[simp] theorem State.push_phase (s : State) (w : Word32) : (s.push w).phase = s.phase := by unfold State.push; split <;> rfl
@[simp] theorem State.push_todo (s : State) (w : Word32) : (s.push w).todo = s.todo := by unfold State.push; split <;> rfl
@[simp] theorem State.push_turns (s : State) (w : Word32) : (s.push w).turns = s.turns := by unfold State.push; split <;> rfl

@[simp] theorem State.popToOsr_cfg (s : State) : s.popToOsr.cfg = s.cfg := by unfold State.popToOsr; split <;> rfl
@[simp] theorem State.popToOsr_osc (s : State) : s.popToOsr.osc = s.osc := by unfold State.popToOsr; split <;> rfl
@[simp] theorem State.popToOsr_gf (s : State) : s.popToOsr.gf = s.gf := by unfold State.popToOsr; split <;> rfl
@[simp] theorem State.popToOsr_qd (s : State) : s.popToOsr.qd = s.qd := by unfold State.popToOsr; split <;> rfl
@[simp] theorem State.popToOsr_kp (s : State) : s.popToOsr.kp = s.kp := by unfold State.popToOsr; split <;> rfl
@[simp] theorem State.popToOsr_adsr (s : State) : s.popToOsr.adsr = s.adsr := by unfold State.popToOsr; split <;> rfl
@[simp] theorem State.popToOsr_op (s : State) : s.popToOsr.op = s.op := by unfold State.popToOsr; split <;> rfl
@[simp] theorem State.popToOsr_txover (s : State) : s.popToOsr.txover = s.txover := by unfold State.popToOsr; split <;> rfl
@[simp] theorem State.popToOsr_illegal (s : State) : s.popToOsr.illegal = s.illegal := by unfold State.popToOsr; split <;> rfl
@[simp] theorem State.popToOsr_cfgErr (s : State) : s.popToOsr.cfgErr = s.cfgErr := by unfold State.popToOsr; split <;> rfl
@[simp] theorem State.popToOsr_halted (s : State) : s.popToOsr.halted = s.halted := by unfold State.popToOsr; split <;> rfl
@[simp] theorem State.popToOsr_cmd (s : State) : s.popToOsr.cmd = s.cmd := by unfold State.popToOsr; split <;> rfl
@[simp] theorem State.popToOsr_a (s : State) : s.popToOsr.a = s.a := by unfold State.popToOsr; split <;> rfl
@[simp] theorem State.popToOsr_b (s : State) : s.popToOsr.b = s.b := by unfold State.popToOsr; split <;> rfl
@[simp] theorem State.popToOsr_v (s : State) : s.popToOsr.v = s.v := by unfold State.popToOsr; split <;> rfl
@[simp] theorem State.popToOsr_r0 (s : State) : s.popToOsr.r0 = s.r0 := by unfold State.popToOsr; split <;> rfl
@[simp] theorem State.popToOsr_r1 (s : State) : s.popToOsr.r1 = s.r1 := by unfold State.popToOsr; split <;> rfl
@[simp] theorem State.popToOsr_phase (s : State) : s.popToOsr.phase = s.phase := by unfold State.popToOsr; split <;> rfl
@[simp] theorem State.popToOsr_todo (s : State) : s.popToOsr.todo = s.todo := by unfold State.popToOsr; split <;> rfl
@[simp] theorem State.popToOsr_turns (s : State) : s.popToOsr.turns = s.turns := by unfold State.popToOsr; split <;> rfl

@[simp] theorem State.loadWord_cfg (s : State) : s.loadWord.cfg = s.cfg := by unfold State.loadWord; split <;> simp
@[simp] theorem State.loadWord_osc (s : State) : s.loadWord.osc = s.osc := by unfold State.loadWord; split <;> simp
@[simp] theorem State.loadWord_gf (s : State) : s.loadWord.gf = s.gf := by unfold State.loadWord; split <;> simp
@[simp] theorem State.loadWord_qd (s : State) : s.loadWord.qd = s.qd := by unfold State.loadWord; split <;> simp
@[simp] theorem State.loadWord_kp (s : State) : s.loadWord.kp = s.kp := by unfold State.loadWord; split <;> simp
@[simp] theorem State.loadWord_adsr (s : State) : s.loadWord.adsr = s.adsr := by unfold State.loadWord; split <;> simp
@[simp] theorem State.loadWord_op (s : State) : s.loadWord.op = s.op := by unfold State.loadWord; split <;> simp
@[simp] theorem State.loadWord_txover (s : State) : s.loadWord.txover = s.txover := by unfold State.loadWord; split <;> simp
@[simp] theorem State.loadWord_illegal (s : State) : s.loadWord.illegal = s.illegal := by unfold State.loadWord; split <;> simp
@[simp] theorem State.loadWord_cfgErr (s : State) : s.loadWord.cfgErr = s.cfgErr := by unfold State.loadWord; split <;> simp
@[simp] theorem State.loadWord_halted (s : State) : s.loadWord.halted = s.halted := by unfold State.loadWord; split <;> simp
@[simp] theorem State.loadWord_cmd (s : State) : s.loadWord.cmd = s.cmd := by unfold State.loadWord; split <;> simp
@[simp] theorem State.loadWord_a (s : State) : s.loadWord.a = s.a := by unfold State.loadWord; split <;> simp
@[simp] theorem State.loadWord_b (s : State) : s.loadWord.b = s.b := by unfold State.loadWord; split <;> simp
@[simp] theorem State.loadWord_v (s : State) : s.loadWord.v = s.v := by unfold State.loadWord; split <;> simp
@[simp] theorem State.loadWord_r0 (s : State) : s.loadWord.r0 = s.r0 := by unfold State.loadWord; split <;> simp
@[simp] theorem State.loadWord_r1 (s : State) : s.loadWord.r1 = s.r1 := by unfold State.loadWord; split <;> simp
@[simp] theorem State.loadWord_phase (s : State) : s.loadWord.phase = s.phase := by unfold State.loadWord; split <;> simp
@[simp] theorem State.loadWord_todo (s : State) : s.loadWord.todo = s.todo := by unfold State.loadWord; split <;> simp
@[simp] theorem State.loadWord_turns (s : State) : s.loadWord.turns = s.turns := by unfold State.loadWord; split <;> simp

@[simp] theorem State.highHalf_cfg (s : State) : s.highHalf.cfg = s.cfg := by unfold State.highHalf; split <;> rfl
@[simp] theorem State.highHalf_osc (s : State) : s.highHalf.osc = s.osc := by unfold State.highHalf; split <;> rfl
@[simp] theorem State.highHalf_gf (s : State) : s.highHalf.gf = s.gf := by unfold State.highHalf; split <;> rfl
@[simp] theorem State.highHalf_qd (s : State) : s.highHalf.qd = s.qd := by unfold State.highHalf; split <;> rfl
@[simp] theorem State.highHalf_kp (s : State) : s.highHalf.kp = s.kp := by unfold State.highHalf; split <;> rfl
@[simp] theorem State.highHalf_adsr (s : State) : s.highHalf.adsr = s.adsr := by unfold State.highHalf; split <;> rfl
@[simp] theorem State.highHalf_op (s : State) : s.highHalf.op = s.op := by unfold State.highHalf; split <;> rfl
@[simp] theorem State.highHalf_txq (s : State) : s.highHalf.txq = s.txq := by unfold State.highHalf; split <;> rfl
@[simp] theorem State.highHalf_txover (s : State) : s.highHalf.txover = s.txover := by unfold State.highHalf; split <;> rfl
@[simp] theorem State.highHalf_illegal (s : State) : s.highHalf.illegal = s.illegal := by unfold State.highHalf; split <;> rfl
@[simp] theorem State.highHalf_cfgErr (s : State) : s.highHalf.cfgErr = s.cfgErr := by unfold State.highHalf; split <;> rfl
@[simp] theorem State.highHalf_halted (s : State) : s.highHalf.halted = s.halted := by unfold State.highHalf; split <;> rfl
@[simp] theorem State.highHalf_cmd (s : State) : s.highHalf.cmd = s.cmd := by unfold State.highHalf; split <;> rfl
@[simp] theorem State.highHalf_a (s : State) : s.highHalf.a = s.a := by unfold State.highHalf; split <;> rfl
@[simp] theorem State.highHalf_b (s : State) : s.highHalf.b = s.b := by unfold State.highHalf; split <;> rfl
@[simp] theorem State.highHalf_v (s : State) : s.highHalf.v = s.v := by unfold State.highHalf; split <;> rfl
@[simp] theorem State.highHalf_r0 (s : State) : s.highHalf.r0 = s.r0 := by unfold State.highHalf; split <;> rfl
@[simp] theorem State.highHalf_r1 (s : State) : s.highHalf.r1 = s.r1 := by unfold State.highHalf; split <;> rfl
@[simp] theorem State.highHalf_phase (s : State) : s.highHalf.phase = s.phase := by unfold State.highHalf; split <;> rfl
@[simp] theorem State.highHalf_todo (s : State) : s.highHalf.todo = s.todo := by unfold State.highHalf; split <;> rfl
@[simp] theorem State.highHalf_turns (s : State) : s.highHalf.turns = s.turns := by unfold State.highHalf; split <;> rfl

@[simp] theorem State.seqStep_cfg (s : State) : s.seqStep.cfg = s.cfg := by unfold State.seqStep; split <;> simp
@[simp] theorem State.seqStep_osc (s : State) : s.seqStep.osc = s.osc := by unfold State.seqStep; split <;> simp
@[simp] theorem State.seqStep_gf (s : State) : s.seqStep.gf = s.gf := by unfold State.seqStep; split <;> simp
@[simp] theorem State.seqStep_qd (s : State) : s.seqStep.qd = s.qd := by unfold State.seqStep; split <;> simp
@[simp] theorem State.seqStep_kp (s : State) : s.seqStep.kp = s.kp := by unfold State.seqStep; split <;> simp
@[simp] theorem State.seqStep_adsr (s : State) : s.seqStep.adsr = s.adsr := by unfold State.seqStep; split <;> simp
@[simp] theorem State.seqStep_op (s : State) : s.seqStep.op = s.op := by unfold State.seqStep; split <;> simp
@[simp] theorem State.seqStep_txover (s : State) : s.seqStep.txover = s.txover := by unfold State.seqStep; split <;> simp
@[simp] theorem State.seqStep_illegal (s : State) : s.seqStep.illegal = s.illegal := by unfold State.seqStep; split <;> simp
@[simp] theorem State.seqStep_cfgErr (s : State) : s.seqStep.cfgErr = s.cfgErr := by unfold State.seqStep; split <;> simp
@[simp] theorem State.seqStep_halted (s : State) : s.seqStep.halted = s.halted := by unfold State.seqStep; split <;> simp
@[simp] theorem State.seqStep_cmd (s : State) : s.seqStep.cmd = s.cmd := by unfold State.seqStep; split <;> simp
@[simp] theorem State.seqStep_a (s : State) : s.seqStep.a = s.a := by unfold State.seqStep; split <;> simp
@[simp] theorem State.seqStep_b (s : State) : s.seqStep.b = s.b := by unfold State.seqStep; split <;> simp
@[simp] theorem State.seqStep_v (s : State) : s.seqStep.v = s.v := by unfold State.seqStep; split <;> simp
@[simp] theorem State.seqStep_r0 (s : State) : s.seqStep.r0 = s.r0 := by unfold State.seqStep; split <;> simp
@[simp] theorem State.seqStep_r1 (s : State) : s.seqStep.r1 = s.r1 := by unfold State.seqStep; split <;> simp
@[simp] theorem State.seqStep_phase (s : State) : s.seqStep.phase = s.phase := by unfold State.seqStep; split <;> simp
@[simp] theorem State.seqStep_todo (s : State) : s.seqStep.todo = s.todo := by unfold State.seqStep; split <;> simp
@[simp] theorem State.seqStep_turns (s : State) : s.seqStep.turns = s.turns := by unfold State.seqStep; split <;> simp

@[simp] theorem State.sequencerTurn_cfg (s : State) : s.sequencerTurn.cfg = s.cfg := by unfold State.sequencerTurn; split <;> simp
@[simp] theorem State.sequencerTurn_osc (s : State) : s.sequencerTurn.osc = s.osc := by unfold State.sequencerTurn; split <;> simp
@[simp] theorem State.sequencerTurn_gf (s : State) : s.sequencerTurn.gf = s.gf := by unfold State.sequencerTurn; split <;> simp
@[simp] theorem State.sequencerTurn_qd (s : State) : s.sequencerTurn.qd = s.qd := by unfold State.sequencerTurn; split <;> simp
@[simp] theorem State.sequencerTurn_kp (s : State) : s.sequencerTurn.kp = s.kp := by unfold State.sequencerTurn; split <;> simp
@[simp] theorem State.sequencerTurn_adsr (s : State) : s.sequencerTurn.adsr = s.adsr := by unfold State.sequencerTurn; split <;> simp
@[simp] theorem State.sequencerTurn_op (s : State) : s.sequencerTurn.op = s.op := by unfold State.sequencerTurn; split <;> simp
@[simp] theorem State.sequencerTurn_txover (s : State) : s.sequencerTurn.txover = s.txover := by unfold State.sequencerTurn; split <;> simp
@[simp] theorem State.sequencerTurn_illegal (s : State) : s.sequencerTurn.illegal = s.illegal := by unfold State.sequencerTurn; split <;> simp
@[simp] theorem State.sequencerTurn_cfgErr (s : State) : s.sequencerTurn.cfgErr = s.cfgErr := by unfold State.sequencerTurn; split <;> simp
@[simp] theorem State.sequencerTurn_halted (s : State) : s.sequencerTurn.halted = s.halted := by unfold State.sequencerTurn; split <;> simp
@[simp] theorem State.sequencerTurn_cmd (s : State) : s.sequencerTurn.cmd = s.cmd := by unfold State.sequencerTurn; split <;> simp
@[simp] theorem State.sequencerTurn_a (s : State) : s.sequencerTurn.a = s.a := by unfold State.sequencerTurn; split <;> simp
@[simp] theorem State.sequencerTurn_b (s : State) : s.sequencerTurn.b = s.b := by unfold State.sequencerTurn; split <;> simp
@[simp] theorem State.sequencerTurn_v (s : State) : s.sequencerTurn.v = s.v := by unfold State.sequencerTurn; split <;> simp
@[simp] theorem State.sequencerTurn_r0 (s : State) : s.sequencerTurn.r0 = s.r0 := by unfold State.sequencerTurn; split <;> simp
@[simp] theorem State.sequencerTurn_r1 (s : State) : s.sequencerTurn.r1 = s.r1 := by unfold State.sequencerTurn; split <;> simp
@[simp] theorem State.sequencerTurn_phase (s : State) : s.sequencerTurn.phase = s.phase := by unfold State.sequencerTurn; split <;> simp
@[simp] theorem State.sequencerTurn_todo (s : State) : s.sequencerTurn.todo = s.todo := by unfold State.sequencerTurn; split <;> simp
@[simp] theorem State.sequencerTurn_turns (s : State) : s.sequencerTurn.turns = s.turns := by unfold State.sequencerTurn; split <;> simp

@[simp] theorem State.afterMonoPush_cfg (s : State) : s.afterMonoPush.cfg = s.cfg := by unfold State.afterMonoPush; split <;> rfl
@[simp] theorem State.afterMonoPush_osc (s : State) : s.afterMonoPush.osc = s.osc := by unfold State.afterMonoPush; split <;> rfl
@[simp] theorem State.afterMonoPush_gf (s : State) : s.afterMonoPush.gf = s.gf := by unfold State.afterMonoPush; split <;> rfl
@[simp] theorem State.afterMonoPush_qd (s : State) : s.afterMonoPush.qd = s.qd := by unfold State.afterMonoPush; split <;> rfl
@[simp] theorem State.afterMonoPush_kp (s : State) : s.afterMonoPush.kp = s.kp := by unfold State.afterMonoPush; split <;> rfl
@[simp] theorem State.afterMonoPush_adsr (s : State) : s.afterMonoPush.adsr = s.adsr := by unfold State.afterMonoPush; split <;> rfl
@[simp] theorem State.afterMonoPush_op (s : State) : s.afterMonoPush.op = s.op := by unfold State.afterMonoPush; split <;> rfl
@[simp] theorem State.afterMonoPush_txq (s : State) : s.afterMonoPush.txq = s.txq := by unfold State.afterMonoPush; split <;> rfl
@[simp] theorem State.afterMonoPush_txover (s : State) : s.afterMonoPush.txover = s.txover := by unfold State.afterMonoPush; split <;> rfl
@[simp] theorem State.afterMonoPush_seq (s : State) : s.afterMonoPush.seq = s.seq := by unfold State.afterMonoPush; split <;> rfl
@[simp] theorem State.afterMonoPush_illegal (s : State) : s.afterMonoPush.illegal = s.illegal := by unfold State.afterMonoPush; split <;> rfl
@[simp] theorem State.afterMonoPush_cfgErr (s : State) : s.afterMonoPush.cfgErr = s.cfgErr := by unfold State.afterMonoPush; split <;> rfl
@[simp] theorem State.afterMonoPush_halted (s : State) : s.afterMonoPush.halted = s.halted := by unfold State.afterMonoPush; split <;> rfl
@[simp] theorem State.afterMonoPush_cmd (s : State) : s.afterMonoPush.cmd = s.cmd := by unfold State.afterMonoPush; split <;> rfl
@[simp] theorem State.afterMonoPush_a (s : State) : s.afterMonoPush.a = s.a := by unfold State.afterMonoPush; split <;> rfl
@[simp] theorem State.afterMonoPush_b (s : State) : s.afterMonoPush.b = s.b := by unfold State.afterMonoPush; split <;> rfl
@[simp] theorem State.afterMonoPush_v (s : State) : s.afterMonoPush.v = s.v := by unfold State.afterMonoPush; split <;> rfl
@[simp] theorem State.afterMonoPush_todo (s : State) : s.afterMonoPush.todo = s.todo := by unfold State.afterMonoPush; split <;> rfl
@[simp] theorem State.afterMonoPush_turns (s : State) : s.afterMonoPush.turns = s.turns := by unfold State.afterMonoPush; split <;> rfl

@[simp] theorem State.rejectWord_cfg (s : State) : s.rejectWord.cfg = s.cfg := by unfold State.rejectWord; split <;> rfl
@[simp] theorem State.rejectWord_osc (s : State) : s.rejectWord.osc = s.osc := by unfold State.rejectWord; split <;> rfl
@[simp] theorem State.rejectWord_gf (s : State) : s.rejectWord.gf = s.gf := by unfold State.rejectWord; split <;> rfl
@[simp] theorem State.rejectWord_qd (s : State) : s.rejectWord.qd = s.qd := by unfold State.rejectWord; split <;> rfl
@[simp] theorem State.rejectWord_kp (s : State) : s.rejectWord.kp = s.kp := by unfold State.rejectWord; split <;> rfl
@[simp] theorem State.rejectWord_adsr (s : State) : s.rejectWord.adsr = s.adsr := by unfold State.rejectWord; split <;> rfl
@[simp] theorem State.rejectWord_op (s : State) : s.rejectWord.op = s.op := by unfold State.rejectWord; split <;> rfl
@[simp] theorem State.rejectWord_txq (s : State) : s.rejectWord.txq = s.txq := by unfold State.rejectWord; split <;> rfl
@[simp] theorem State.rejectWord_txover (s : State) : s.rejectWord.txover = s.txover := by unfold State.rejectWord; split <;> rfl
@[simp] theorem State.rejectWord_seq (s : State) : s.rejectWord.seq = s.seq := by unfold State.rejectWord; split <;> rfl
@[simp] theorem State.rejectWord_cfgErr (s : State) : s.rejectWord.cfgErr = s.cfgErr := by unfold State.rejectWord; split <;> rfl
@[simp] theorem State.rejectWord_halted (s : State) : s.rejectWord.halted = s.halted := by unfold State.rejectWord; split <;> rfl
@[simp] theorem State.rejectWord_cmd (s : State) : s.rejectWord.cmd = s.cmd := by unfold State.rejectWord; split <;> rfl
@[simp] theorem State.rejectWord_a (s : State) : s.rejectWord.a = s.a := by unfold State.rejectWord; split <;> rfl
@[simp] theorem State.rejectWord_b (s : State) : s.rejectWord.b = s.b := by unfold State.rejectWord; split <;> rfl
@[simp] theorem State.rejectWord_v (s : State) : s.rejectWord.v = s.v := by unfold State.rejectWord; split <;> rfl
@[simp] theorem State.rejectWord_todo (s : State) : s.rejectWord.todo = s.todo := by unfold State.rejectWord; split <;> rfl
@[simp] theorem State.rejectWord_turns (s : State) : s.rejectWord.turns = s.turns := by unfold State.rejectWord; split <;> rfl

end Sys2Proof.Machine
end

