-- ==== Sys2Proof/Laws/Arithmetic.lean ====
section
/-! SUPPORT. The conversions of R11 in terms of integers: ranges, round trips, and the interpolation of R206 and R270
staying between its end values. -/

namespace Sys2Proof.Machine

theorem pow_pred_add {n : Nat} (hn : 0 < n) : (2 : Int) ^ n = 2 ^ (n - 1) + 2 ^ (n - 1) := by
  obtain ⟨m, rfl⟩ : ∃ m, n = m + 1 := ⟨n - 1, by omega⟩
  simp [pow_succ]; ring

theorem uN_eq_emod (n : Nat) (v : Int) : ((uN n v : Nat) : Int) = v % 2 ^ n := by
  unfold uN
  exact Int.toNat_of_nonneg (Int.emod_nonneg _ (by positivity))

theorem uN_lt (n : Nat) (v : Int) : uN n v < 2 ^ n := by
  have h := uN_eq_emod n v
  have h2 := Int.emod_lt_of_pos v (show (0 : Int) < 2 ^ n by positivity)
  have : ((uN n v : Nat) : Int) < ((2 ^ n : Nat) : Int) := by push_cast; omega
  exact_mod_cast this

/-- `s_n` of an n-bit pattern: the pattern below `2^(n-1)`, the pattern less `2^n` from there on. -/
theorem sN_eq {n u : Nat} (hn : 0 < n) (hu : u < 2 ^ n) :
    sN n u = if u < 2 ^ (n - 1) then (u : Int) else (u : Int) - 2 ^ n := by
  obtain ⟨m, rfl⟩ : ∃ m, n = m + 1 := ⟨n - 1, by omega⟩
  have hp : 0 < 2 ^ m := by positivity
  have hu' : u < 2 ^ m * 2 := by rw [pow_succ] at hu; exact hu
  simp only [sN, Nat.add_sub_cancel]
  by_cases h : u < 2 ^ m
  · simp [h, Nat.div_eq_of_lt h]
  · have h1 : u / 2 ^ m = 1 := by
      apply Nat.div_eq_of_lt_le <;> omega
    simp [h, h1]

/-- `s_n` of an n-bit pattern is an n-bit signed value. -/
theorem sN_range {n u : Nat} (hn : 0 < n) (hu : u < 2 ^ n) :
    -(2 ^ (n - 1)) ≤ sN n u ∧ sN n u ≤ 2 ^ (n - 1) - 1 := by
  have hp := pow_pred_add hn
  have hu' : (u : Int) < 2 ^ n := by exact_mod_cast hu
  have hq : (0 : Int) < 2 ^ (n - 1) := by positivity
  rw [sN_eq hn hu]
  split
  · rename_i h
    have h' : (u : Int) < 2 ^ (n - 1) := by exact_mod_cast h
    omega
  · rename_i h
    have h' : (2 : Int) ^ (n - 1) ≤ (u : Int) := by exact_mod_cast Nat.not_lt.mp h
    omega

/-- `s_n(u)` is congruent to `u` modulo `2^n`. -/
theorem sN_congr {n u : Nat} : ((u : Int) - sN n u) % 2 ^ n = 0 := by
  unfold sN
  split
  · simp
  · simp

/-- Two n-bit signed values congruent modulo `2^n` are equal. -/
theorem signed_unique {n : Nat} (hn : 0 < n) {x y : Int} (hx : -(2 ^ (n - 1)) ≤ x) (hx' : x ≤ 2 ^ (n - 1) - 1)
    (hy : -(2 ^ (n - 1)) ≤ y) (hy' : y ≤ 2 ^ (n - 1) - 1) (h : (x - y) % 2 ^ n = 0) : x = y := by
  have hp := pow_pred_add hn
  have hd : (2 : Int) ^ n ∣ x - y := Int.dvd_of_emod_eq_zero h
  have : x - y = 0 := Int.eq_zero_of_abs_lt_dvd hd (by rw [abs_lt]; omega)
  omega

/-- `s_n` after `u_n` gives an n-bit signed value back. -/
theorem sN_uN {n : Nat} (hn : 0 < n) {x : Int} (hx : -(2 ^ (n - 1)) ≤ x) (hx' : x ≤ 2 ^ (n - 1) - 1) :
    sN n (uN n x) = x := by
  obtain ⟨h1, h2⟩ := sN_range hn (uN_lt n x)
  refine (signed_unique hn hx hx' h1 h2 ?_).symm
  have hc := @sN_congr n (uN n x)
  rw [uN_eq_emod] at hc
  rw [Int.sub_emod, Int.emod_emod_of_dvd _ (dvd_refl _), ← Int.sub_emod] at hc
  exact hc

/-- The sample operand on a bus is the one sample congruent to it (R95). -/
theorem sampleOperand_spec {c : Config} (hw : 0 < c.w) (x : Bus) : IsSampleOf c x.toNat (sampleOperand c x) := by
  have hlt : x.toNat % 2 ^ c.w < 2 ^ c.w := Nat.mod_lt _ (by positivity)
  refine ⟨sN_range hw hlt, ?_⟩
  have hc := @sN_congr c.w (x.toNat % 2 ^ c.w)
  push_cast at hc
  rw [Int.sub_emod, Int.emod_emod_of_dvd _ (dvd_refl _), ← Int.sub_emod] at hc
  exact hc

/-- The sample congruent to a bus is unique, so it is the sample operand (R95). -/
theorem sampleOperand_unique {c : Config} (hw : 0 < c.w) {x : Bus} {y : Int} (h : IsSampleOf c x.toNat y) :
    sampleOperand c x = y := by
  obtain ⟨⟨h1, h2⟩, h3⟩ := sampleOperand_spec hw x
  obtain ⟨⟨k1, k2⟩, k3⟩ := h
  refine signed_unique hw h1 h2 k1 k2 ?_
  have h3' := Int.dvd_of_emod_eq_zero h3
  have k3' := Int.dvd_of_emod_eq_zero k3
  have := Int.dvd_sub k3' h3'
  have e : ((x.toNat : Int) - y) - ((x.toNat : Int) - sampleOperand c x) = sampleOperand c x - y := by ring
  rw [e] at this
  exact Int.emod_eq_zero_of_dvd this

/-- Truncating division of a nonnegative multiple `x` of `d` by `n`, `0 <= x <= n`, lies between 0 and `d`. -/
theorem tdiv_between {x n : Nat} (hx : x ≤ n) (d : Int) :
    min 0 d ≤ Int.tdiv ((x : Int) * d) (n : Int) ∧ Int.tdiv ((x : Int) * d) (n : Int) ≤ max 0 d := by
  rcases Nat.eq_zero_or_pos n with rfl | hn
  · obtain rfl : x = 0 := by omega
    simp
  have hn' : (0 : Int) < n := by exact_mod_cast hn
  have hx' : (x : Int) ≤ n := by exact_mod_cast hx
  have hx0 : (0 : Int) ≤ x := by positivity
  rcases le_total 0 d with hd | hd
  · have h0 : 0 ≤ (x : Int) * d := by positivity
    rw [Int.tdiv_eq_ediv_of_nonneg h0, min_eq_left hd, max_eq_right hd]
    refine ⟨Int.ediv_nonneg h0 hn'.le, ?_⟩
    calc (x : Int) * d / n ≤ (n : Int) * d / n := Int.ediv_le_ediv hn' (by nlinarith)
      _ = d := Int.mul_ediv_cancel_left d hn'.ne'
  · obtain ⟨e, rfl⟩ : ∃ e, d = -e := ⟨-d, by ring⟩
    have he : 0 ≤ e := by omega
    have h0 : 0 ≤ (x : Int) * e := by positivity
    rw [mul_neg, Int.neg_tdiv, Int.tdiv_eq_ediv_of_nonneg h0, min_eq_right (by omega), max_eq_left (by omega)]
    have h1 : 0 ≤ (x : Int) * e / n := Int.ediv_nonneg h0 hn'.le
    have h2 : (x : Int) * e / n ≤ e := by
      calc (x : Int) * e / n ≤ (n : Int) * e / n := Int.ediv_le_ediv hn' (by nlinarith)
        _ = e := Int.mul_ediv_cancel_left e hn'.ne'
    omega

/-- The interpolation lies between its end values (R206, R270). -/
theorem interpolate_between {x n : Nat} (hx : x ≤ n) (y0 y1 : Int) :
    min y0 y1 ≤ interpolate x n y0 y1 ∧ interpolate x n y0 y1 ≤ max y0 y1 := by
  obtain ⟨h1, h2⟩ := tdiv_between hx (y1 - y0)
  unfold interpolate
  omega

end Sys2Proof.Machine
end

