-- ==== Sys2Proof/Laws/Decode.lean ====
section
/-! SUPPORT. The fields of a command word, and what the decoder says of a word put together from its fields. -/

namespace Sys2Proof

@[simp] theorem unitField_word (u o : BitVec 4) (i : Inst) : unitField (word u o i) = u := by
  apply BitVec.eq_of_getLsbD_eq
  intro k hk
  simp only [unitField, word, BitVec.getLsbD_extractLsb', BitVec.getLsbD_append]
  rw [if_neg (by omega), if_neg (by omega)]
  simp only [show 12 + k - 8 - 4 = k by omega, hk, decide_true, Bool.true_and]

@[simp] theorem opField_word (u o : BitVec 4) (i : Inst) : opField (word u o i) = o := by
  apply BitVec.eq_of_getLsbD_eq
  intro k hk
  simp only [opField, word, BitVec.getLsbD_extractLsb', BitVec.getLsbD_append]
  rw [if_neg (by omega), if_pos (by omega)]
  simp only [show 8 + k - 8 = k by omega, hk, decide_true, Bool.true_and]

@[simp] theorem instField_word (u o : BitVec 4) (i : Inst) : instField (word u o i) = i := by
  apply BitVec.eq_of_getLsbD_eq
  intro k hk
  simp only [instField, word, BitVec.getLsbD_extractLsb', BitVec.getLsbD_append]
  rw [if_pos (by omega)]
  simp only [show 0 + k = k by omega, hk, decide_true, Bool.true_and]

/-- A command word is the word of its three fields (R91). -/
theorem word_fields (w : CmdWord) : word (unitField w) (opField w) (instField w) = w := by
  apply BitVec.eq_of_getLsbD_eq
  intro k hk
  simp only [unitField, opField, instField, word, BitVec.getLsbD_extractLsb', BitVec.getLsbD_append]
  split
  · rename_i h; simp [h]
  · split
    · rename_i h h'; simp [h', show 8 + (k - 8) = k by omega]
    · rename_i h h'
      simp [show k - 8 - 4 < 4 by omega, show 12 + (k - 8 - 4) = k by omega]

/-- What `single` accepts: only instance 0 (R94). -/
theorem single_ok {inst : Inst} {i j : Instr} (h : single inst i = .ok j) : inst = 0 ∧ j = i := by
  unfold single at h
  split at h
  · exact ⟨‹_›, by cases h; rfl⟩
  · cases h

end Sys2Proof
end

