-- ==== Sys2Proof/Laws/Ops.lean ====
section
/-! SUPPORT. What each shared operation of Machine/Ops.lean can do, said once. -/

namespace Sys2Proof.Machine

/-! ### The checks every command passes -/

theorem unlessHalted_of_halted {s : State} (h : s.halted = true) (rule : Out) :
    unlessHalted s rule = .next s.done := by simp [unlessHalted, h]

@[simp] theorem unlessHalted_of_running {s : State} (h : s.halted = false) (rule : Out) :
    unlessHalted s rule = rule := by simp [unlessHalted, h]

@[simp] theorem onInstance_of_legal {count : Nat} {inst : Inst} {s : State} (h : s.halted = false)
    (hi : inst.toNat < count) (rule : Out) : onInstance count inst s rule = rule := by
  simp [onInstance, h, hi]

theorem onInstance_of_illegal {count : Nat} {inst : Inst} {s : State} (h : s.halted = false)
    (hi : count ≤ inst.toNat) (rule : Out) : onInstance count inst s rule = .next s.raiseIllegal := by
  simp [onInstance, h, Nat.not_lt.mpr hi]

theorem onInstance_of_halted {count : Nat} {inst : Inst} {s : State} (h : s.halted = true) (rule : Out) :
    onInstance count inst s rule = .next s.done := by simp [onInstance, unlessHalted, h]

/-- What a guarded command can answer. -/
theorem unlessHalted_next {s t : State} {rule : Out} (h : unlessHalted s rule = .next t) :
    (s.halted = true ∧ t = s.done) ∨ (s.halted = false ∧ rule = .next t) := by
  unfold unlessHalted at h
  split at h
  · exact .inl ⟨‹_›, by cases h; rfl⟩
  · rename_i h0
    exact .inr ⟨by simpa using h0, h⟩

/-- What a command on an instance can answer: ignored while HALTED, illegal, or its own rule's answer. -/
theorem onInstance_next {count : Nat} {inst : Inst} {s t : State} {rule : Out}
    (h : onInstance count inst s rule = .next t) :
    (s.halted = true ∧ t = s.done) ∨ (s.halted = false ∧ count ≤ inst.toNat ∧ t = s.raiseIllegal) ∨
      (s.halted = false ∧ inst.toNat < count ∧ rule = .next t) := by
  rcases unlessHalted_next h with h | ⟨h0, h⟩
  · exact .inl h
  · split at h
    · exact .inr (.inr ⟨h0, ‹_›, h⟩)
    · exact .inr (.inl ⟨h0, by omega, by cases h; rfl⟩)

/-- A rule under a host contract completes only in the state it computed. -/
theorem completeOr_next {r : Except Fault State} {t : State} (h : completeOr r = .next t) :
    ∃ s, r = .ok s ∧ t = s.done := by
  unfold completeOr at h
  split at h
  · exact ⟨_, rfl, by cases h; rfl⟩
  · cases h

@[simp] theorem completeOr_ok (s : State) : completeOr (.ok s) = .next s.done := rfl
@[simp] theorem completeOr_error (f : Fault) : completeOr (.error f) = .fault f := rfl

/-! ### The registers of the units -/

theorem State.oscAt_setOsc_self {s : State} {i : Inst} {x : Osc} (h : i.toNat < s.osc.length) :
    (s.setOsc i x).oscAt i = x := by simp [State.oscAt, h]

theorem State.oscAt_setOsc_of_ne {s : State} {i k : Inst} {x : Osc} (h : k ≠ i) :
    (s.setOsc i x).oscAt k = s.oscAt k := by
  have h' : i.toNat ≠ k.toNat := fun e => h (BitVec.eq_of_toNat_eq e.symm)
  simp [State.oscAt, List.getD_eq_getElem?_getD, List.getElem?_set_ne h']

theorem State.gfAt_setGf_self {s : State} {i : Inst} {x : Filter} (h : i.toNat < s.gf.length) :
    (s.setGf i x).gfAt i = x := by simp [State.gfAt, h]

theorem State.qdAt_setQd_self {s : State} {i : Inst} {x : Quadrature} (h : i.toNat < s.qd.length) :
    (s.setQd i x).qdAt i = x := by simp [State.qdAt, h]

theorem State.adsrAt_setAdsr_self {s : State} {i : Inst} {x : Adsr} (h : i.toNat < s.adsr.length) :
    (s.setAdsr i x).adsrAt i = x := by simp [State.adsrAt, h]

theorem State.opAt_setOp_self {s : State} {i : Inst} {x : Operator} (h : i.toNat < s.op.length) :
    (s.setOp i x).opAt i = x := by simp [State.opAt, h]

/-- An envelope generator of the block is one of its list, or in the reset state. -/
theorem State.adsrAt_mem (s : State) (i : Inst) : s.adsrAt i ∈ s.adsr ∨ s.adsrAt i = Adsr.reset := by
  unfold State.adsrAt
  rw [List.getD_eq_getElem?_getD]
  cases h : s.adsr[i.toNat]? with
  | none => exact .inr rfl
  | some e => exact .inl (List.mem_of_getElem? h)

/-- An operator of the block is one of its list, or in the reset state. -/
theorem State.opAt_mem (s : State) (i : Inst) : s.opAt i ∈ s.op ∨ s.opAt i = Operator.reset := by
  unfold State.opAt
  rw [List.getD_eq_getElem?_getD]
  cases h : s.op[i.toNat]? with
  | none => exact .inr rfl
  | some e => exact .inl (List.mem_of_getElem? h)

/-! ### The transmit queue -/

@[simp] theorem State.push_of_room {s : State} (h : s.hasRoom = true) (w : Word32) :
    s.push w = { s with txq := s.txq ++ [w] } := by simp [State.push, h]

@[simp] theorem State.push_of_full {s : State} (h : s.hasRoom = false) (w : Word32) :
    s.push w = { s with txover := true } := by simp [State.push, h]

/-- Everything a push can do to the queue and TXOVER (R321). -/
theorem State.push_spec (s : State) (w : Word32) :
    (s.txq.length < s.cfg.q ∧ (s.push w).txq = s.txq ++ [w] ∧ (s.push w).txover = s.txover) ∨
      (s.cfg.q ≤ s.txq.length ∧ (s.push w).txq = s.txq ∧ (s.push w).txover = true) := by
  unfold State.push State.hasRoom
  by_cases h : s.txq.length < s.cfg.q
  · exact .inl (by simp [h])
  · exact .inr (by simp [h, Nat.not_lt.mp h])

/-- Everything a pop can do: nothing on an empty queue, else the oldest word moves into `osr` (R321, R331). -/
theorem State.popToOsr_spec (s : State) :
    (s.txq = [] ∧ s.popToOsr = s) ∨
      ∃ w rest, s.txq = w :: rest ∧
        s.popToOsr = { s with txq := rest, seq := { s.seq with osr := w, loaded := true } } := by
  unfold State.popToOsr
  cases s.txq with
  | nil => exact .inl ⟨rfl, rfl⟩
  | cons w rest => exact .inr ⟨w, rest, rfl, rfl⟩

end Sys2Proof.Machine
end

