-- ==== Sys2Proof/Laws/PerInstr.lean ====
section
/-! SUPPORT. Statements made per instruction. `TableMatch`: the encoder's word of an instruction has, under its row's
mask, its row's match value of spec/opcode_table.json. -/

namespace Sys2Proof.Laws.TableMatch

/-- The `mask` and `match` of an instruction's row. -/
def row : Instr → CmdWord × CmdWord
  | .oscTick _ => (0xFF00, 0x0000)
  | .oscSetFreq _ => (0xFF00, 0x0100)
  | .oscSetDelta _ => (0xFF00, 0x0200)
  | .oscTickMod _ => (0xFF00, 0x0300)
  | .oscSaw _ => (0xFF00, 0x0400)
  | .oscSquare _ => (0xFF00, 0x0500)
  | .oscSine _ => (0xFF00, 0x0600)
  | .oscRead _ => (0xFF00, 0x0700)
  | .gfSample _ => (0xFF00, 0x1000)
  | .gfRead _ => (0xFF00, 0x1100)
  | .qdSample _ => (0xFF00, 0x2000)
  | .qdRead _ => (0xFF00, 0x2100)
  | .kpScanStep => (0xFFFF, 0x3000)
  | .kpGetEvent => (0xFFFF, 0x3100)
  | .kpRead => (0xFFFF, 0x3200)
  | .adsrFeed _ => (0xFF00, 0x4000)
  | .adsrTick _ => (0xFF00, 0x4100)
  | .adsrApply _ => (0xFF00, 0x4200)
  | .adsrRead _ => (0xFF00, 0x4300)
  | .opTick _ => (0xFF00, 0x5000)
  | .opFeedEvent _ => (0xFF00, 0x5100)
  | .opSetInput _ => (0xFF00, 0x5200)
  | .opSaw _ => (0xFF00, 0x5300)
  | .opSquare _ => (0xFF00, 0x5400)
  | .opSine _ => (0xFF00, 0x5500)
  | .opRead _ => (0xFF00, 0x5600)
  | .mixMix => (0xFFFF, 0x6000)
  | .i2sIsWritable => (0xFFFF, 0x7000)
  | .i2sWrite => (0xFFFF, 0x7100)
  | .i2sWriteBlocking => (0xFFFF, 0x7200)
  | .i2sWriteMono => (0xFFFF, 0x7300)
  | .i2sWriteMonoBlocking => (0xFFFF, 0x7400)
  | .i2sStatus => (0xFFFF, 0x7500)
  | .sysStatus => (0xFFFF, 0xF000)

/-- The encoder writes the row's fixed bits. -/
def Statement (i : Instr) : Prop := encode i &&& (row i).1 = (row i).2

theorem of_inst (u o : BitVec 4) (i : Inst) : word u o i &&& 0xFF00 = word u o 0 := by
  unfold word
  have e : (0xFF00 : CmdWord) = BitVec.allOnes 4 ++ BitVec.allOnes 4 ++ 0#8 := rfl
  rw [e, BitVec.and_append, BitVec.and_append]
  rw [BitVec.and_allOnes, BitVec.and_allOnes, BitVec.and_zero]
  rfl

theorem oscTick (i : Inst) : Statement (.oscTick i) := of_inst _ _ i
theorem oscSetFreq (i : Inst) : Statement (.oscSetFreq i) := of_inst _ _ i
theorem oscSetDelta (i : Inst) : Statement (.oscSetDelta i) := of_inst _ _ i
theorem oscTickMod (i : Inst) : Statement (.oscTickMod i) := of_inst _ _ i
theorem oscSaw (i : Inst) : Statement (.oscSaw i) := of_inst _ _ i
theorem oscSquare (i : Inst) : Statement (.oscSquare i) := of_inst _ _ i
theorem oscSine (i : Inst) : Statement (.oscSine i) := of_inst _ _ i
theorem oscRead (i : Inst) : Statement (.oscRead i) := of_inst _ _ i
theorem gfSample (i : Inst) : Statement (.gfSample i) := of_inst _ _ i
theorem gfRead (i : Inst) : Statement (.gfRead i) := of_inst _ _ i
theorem qdSample (i : Inst) : Statement (.qdSample i) := of_inst _ _ i
theorem qdRead (i : Inst) : Statement (.qdRead i) := of_inst _ _ i
theorem kpScanStep : Statement .kpScanStep := rfl
theorem kpGetEvent : Statement .kpGetEvent := rfl
theorem kpRead : Statement .kpRead := rfl
theorem adsrFeed (i : Inst) : Statement (.adsrFeed i) := of_inst _ _ i
theorem adsrTick (i : Inst) : Statement (.adsrTick i) := of_inst _ _ i
theorem adsrApply (i : Inst) : Statement (.adsrApply i) := of_inst _ _ i
theorem adsrRead (i : Inst) : Statement (.adsrRead i) := of_inst _ _ i
theorem opTick (i : Inst) : Statement (.opTick i) := of_inst _ _ i
theorem opFeedEvent (i : Inst) : Statement (.opFeedEvent i) := of_inst _ _ i
theorem opSetInput (i : Inst) : Statement (.opSetInput i) := of_inst _ _ i
theorem opSaw (i : Inst) : Statement (.opSaw i) := of_inst _ _ i
theorem opSquare (i : Inst) : Statement (.opSquare i) := of_inst _ _ i
theorem opSine (i : Inst) : Statement (.opSine i) := of_inst _ _ i
theorem opRead (i : Inst) : Statement (.opRead i) := of_inst _ _ i
theorem mixMix : Statement .mixMix := rfl
theorem i2sIsWritable : Statement .i2sIsWritable := rfl
theorem i2sWrite : Statement .i2sWrite := rfl
theorem i2sWriteBlocking : Statement .i2sWriteBlocking := rfl
theorem i2sWriteMono : Statement .i2sWriteMono := rfl
theorem i2sWriteMonoBlocking : Statement .i2sWriteMonoBlocking := rfl
theorem i2sStatus : Statement .i2sStatus := rfl
theorem sysStatus : Statement .sysStatus := rfl

end Sys2Proof.Laws.TableMatch
end

