-- ==== Sys2Proof/Laws/Schedule.lean ====
section
/-! SUPPORT. What a run along a schedule can do, and a schedule that is weakly fair. -/

namespace Sys2Proof.Machine

@[simp] theorem runAlong_zero (turn : Nat → Turn) (s : State) : runAlong turn s 0 = .next s := rfl

/-- A run goes on by one step with the schedule's turn. -/
theorem runAlong_succ {turn : Nat → Turn} {s t : State} {n : Nat} (h : runAlong turn s n = .next t) :
    runAlong turn s (n + 1) = step { t with turns := [turn n] } := by
  simp only [runAlong, h]

/-- A run that has not stopped after `n + 1` steps had not stopped after `n`. -/
theorem runAlong_next {turn : Nat → Turn} {s u : State} {n : Nat} (h : runAlong turn s (n + 1) = .next u) :
    ∃ t, runAlong turn s n = .next t ∧ step { t with turns := [turn n] } = .next u := by
  simp only [runAlong] at h
  split at h
  · exact ⟨_, ‹_›, h⟩
  · cases h
  · cases h

/-- A schedule that gives the sequencer a turn again and again is weakly fair from every state. -/
theorem weaklyFair_of_recurring {turn : Nat → Turn} (h : ∀ n, ∃ m, n ≤ m ∧ turn m = .sequencer) (s : State) :
    WeaklyFair turn s := fun n _ => h n

end Sys2Proof.Machine
end

