-- ==== Sys2Proof/Laws/Units.lean ====
section
/-! SUPPORT. What each unit's own operation can do, said once: the filter step, one column of a keypad scan, the
envelope's transition, value and feed, and the sequencer's turn. -/

namespace Sys2Proof.Machine

/-! ### Glitch filter -/

/-- Everything a filter step can do (R229). -/
theorem gfStep_spec (c : Config) (f : Filter) (x : Bool) :
    (gfStep c f x).1.sr = (f.sr * 2 + x.toNat) % 2 ^ c.n ∧
      (((gfStep c f x).1.sr = 2 ^ c.n - 1 ∧ f.state = false ∧ (gfStep c f x).1.state = true ∧
          (gfStep c f x).2 = .toSet) ∨
        ((gfStep c f x).1.sr = 0 ∧ f.state = true ∧ (gfStep c f x).1.state = false ∧
          (gfStep c f x).2 = .toClear) ∨
        ((gfStep c f x).1.state = f.state ∧ (gfStep c f x).2 = .none)) := by
  unfold gfStep
  dsimp only
  split
  · exact ⟨rfl, .inl ⟨‹_ ∧ _›.1, ‹_ ∧ _›.2, rfl, rfl⟩⟩
  · split
    · exact ⟨rfl, .inr (.inl ⟨‹_ ∧ _›.1, ‹_ ∧ _›.2, rfl, rfl⟩)⟩
    · exact ⟨rfl, .inr (.inr ⟨rfl, rfl⟩)⟩

/-! ### Keypad -/

/-- Everything one column of a scan can do (R252). -/
theorem scanColumn_spec (t : Time) (cols : BitVec 4) (k : Keypad) (col : Nat) :
    (cols.getLsbD col = k.isPressed (buttonId k.row col) ∧ Keypad.scanColumn t cols k col = k) ∨
      (cols.getLsbD col = true ∧ k.isPressed (buttonId k.row col) = false ∧
        Keypad.scanColumn t cols k col = { k.press (buttonId k.row col) with stamp := t, changed := true }) ∨
      (cols.getLsbD col = false ∧ k.isPressed (buttonId k.row col) = true ∧
        Keypad.scanColumn t cols k col = { k.release (buttonId k.row col) with stamp := t, changed := true }) := by
  unfold Keypad.scanColumn
  cases h : cols.getLsbD col <;> cases h' : k.isPressed (buttonId k.row col) <;> simp [h']

theorem testBit_of_one_shift (b b' : Button) :
    ((1#16 <<< b.toNat).getLsbD b'.toNat) = decide (b' = b) := by
  revert b b'; decide

/-- After a press a button reads pressed if it is the pressed one, else as before. -/
@[simp] theorem Keypad.isPressed_press (k : Keypad) (b b' : Button) :
    (k.press b).isPressed b' = (decide (b' = b) || k.isPressed b') := by
  simp only [Keypad.isPressed, Keypad.press, BitVec.getLsbD_or, testBit_of_one_shift, Bool.or_comm]

/-- After a release a button reads released if it is the released one, else as before. -/
@[simp] theorem Keypad.isPressed_release (k : Keypad) (b b' : Button) :
    (k.release b).isPressed b' = (!decide (b' = b) && k.isPressed b') := by
  simp only [Keypad.isPressed, Keypad.release, BitVec.getLsbD_and, BitVec.getLsbD_not, testBit_of_one_shift]
  have : b'.toNat < 16 := by omega
  simp [this, Bool.and_comm]

@[simp] theorem Keypad.press_row (k : Keypad) (b : Button) : (k.press b).row = k.row := rfl
@[simp] theorem Keypad.press_stack (k : Keypad) (b : Button) : (k.press b).stack = k.stack ++ [b] := rfl
@[simp] theorem Keypad.press_lastRel (k : Keypad) (b : Button) :
    (k.press b).lastRel = if k.lastRel = some b then none else k.lastRel := rfl
@[simp] theorem Keypad.release_row (k : Keypad) (b : Button) : (k.release b).row = k.row := rfl
@[simp] theorem Keypad.release_stack (k : Keypad) (b : Button) : (k.release b).stack = k.stack.erase b := rfl
@[simp] theorem Keypad.release_lastRel (k : Keypad) (b : Button) : (k.release b).lastRel = some b := rfl

/-! ### Envelope -/

/-- The state a tick moves to, and that it does not lie beyond its own end (R273, R277). -/
theorem advance_spec (st : EnvState) (t : Time) :
    (st.advance t = .off) ∨ (st.advance t = .sustain) ∨
      (∃ s ae de, st = .attack s ae de ∧ st.advance t = .attack s ae de ∧ t.toNat < ae.toNat ∧ t.toNat < de.toNat) ∨
      (∃ s ae de, st = .attack s ae de ∧ st.advance t = .decay ae de ∧ ae.toNat ≤ t.toNat ∧ t.toNat < de.toNat) ∨
      (∃ s e, st = .decay s e ∧ st.advance t = .decay s e ∧ t.toNat < e.toNat) ∨
      (∃ s v e, st = .release s v e ∧ st.advance t = .release s v e ∧ t.toNat < e.toNat) := by
  cases st with
  | off => exact .inl rfl
  | sustain => exact .inr (.inl rfl)
  | attack s ae de =>
    by_cases h1 : de.toNat ≤ t.toNat
    · exact .inr (.inl (by simp [EnvState.advance, h1]))
    · by_cases h2 : ae.toNat ≤ t.toNat
      · exact .inr (.inr (.inr (.inl ⟨s, ae, de, rfl, by simp [EnvState.advance, h1, h2], h2, by omega⟩)))
      · exact .inr (.inr (.inl ⟨s, ae, de, rfl, by simp [EnvState.advance, h1, h2], by omega, by omega⟩))
  | decay s e =>
    by_cases h : e.toNat ≤ t.toNat
    · exact .inr (.inl (by simp [EnvState.advance, h]))
    · exact .inr (.inr (.inr (.inr (.inl ⟨s, e, rfl, by simp [EnvState.advance, h], by omega⟩))))
  | release s v e =>
    by_cases h : e.toNat ≤ t.toNat
    · exact .inl (by simp [EnvState.advance, h])
    · exact .inr (.inr (.inr (.inr (.inr ⟨s, v, e, rfl, by simp [EnvState.advance, h], by omega⟩))))

/-- What a deadline can be (R272). -/
theorem deadline_ok {c : Config} {ts e : Time} {d : Nat} (h : deadline c ts d = .ok e) :
    ts.toNat + d < 2 ^ c.tb ∧ e = BitVec.ofNat 64 (ts.toNat + d) := by
  unfold deadline at h
  split at h
  · exact ⟨‹_›, by cases h; rfl⟩
  · cases h

/-- What a tick of an envelope generator can do: the transition, and the value of the state it leads to (R273). -/
theorem adsrTick_ok {c : Config} {p : Profile} {e e' : Adsr} {t : Time} (h : e.tick c p t = .ok e') :
    e'.st = e.st.advance t ∧ EnvState.value c p e'.st t = .ok e'.env := by
  unfold Adsr.tick at h
  cases hv : EnvState.value c p (e.st.advance t) t with
  | error f => rw [hv] at h; cases h
  | ok v => rw [hv] at h; cases h; exact ⟨rfl, hv⟩

/-- Feeding an event never writes the envelope register (R272). -/
theorem adsrFeed_env {c : Config} {p : Profile} {e e' : Adsr} {ts : Time} {ev : Event}
    (h : e.feed c p ts ev = .ok e') : e'.env = e.env := by
  unfold Adsr.feed at h
  split at h
  · cases hk : ev.kind with
    | pressed =>
      simp only [hk, Adsr.press] at h
      cases hd : deadline c ts (p.attack + p.decay) with
      | error f => rw [hd] at h; cases h
      | ok d => rw [hd] at h; cases h; rfl
    | released =>
      simp only [hk, Adsr.release] at h
      cases hs : e.st <;> simp only [hs] at h
      case off => cases h; rfl
      case release => cases h; rfl
      all_goals
        cases hd : deadline c ts p.release with
        | error f => rw [hd] at h; cases h
        | ok d => rw [hd] at h; cases h; rfl
  · cases h; rfl

/-! ### Sequencer -/

/-- Everything a turn of the sequencer can do: nothing when it is disabled, else a low half after a possible pop, or a
high half (R330, R331). -/
theorem sequencerTurn_cases (s : State) :
    (s.seqEnabled = false ∧ s.sequencerTurn = s) ∨
      (s.seqEnabled = true ∧ s.seq.half = false ∧ s.sequencerTurn = s.loadWord.lowHalf) ∨
      (s.seqEnabled = true ∧ s.seq.half = true ∧ s.sequencerTurn = s.highHalf) := by
  unfold State.sequencerTurn State.seqStep
  cases s.seqEnabled <;> cases s.seq.half <;> simp

end Sys2Proof.Machine
end

