-- ==== Sys2Proof/Machine/HostMacros.lean ====
section
/-! DEFINITION. The host macros (R102), as the commands they expand to. A macro that uses a response gives its first
command and the rest as a function of `R0` and `R1`; I2S.WAIT_WRITABLE's loop is host control flow, so it is the one
command it repeats and the test it repeats on. -/

namespace Sys2Proof.Machine

/-- A command word on the port with its operands, no lane of V driven other than 0. -/
def command (i : Instr) (a b : Bus) : Command := ⟨encode i, a, b, []⟩

/-- `I2S.WRITE_STEREO l, r` (R102). -/
def macroWriteStereo (l r : Bus) : List Command := [command .i2sWrite l 0, command .i2sWrite r 0]

/-- `I2S.WRITE_STEREO_BLOCKING l, r` (R102). -/
def macroWriteStereoBlocking (l r : Bus) : List Command :=
  [command .i2sWriteBlocking l 0, command .i2sWriteBlocking r 0]

/-- `I2S.WAIT_WRITABLE`: the command, and whether the host issues it again on this `R0` (R102). -/
def macroWaitWritable : Command × (Bus → Bool) := (command .i2sIsWritable 0 0, fun r0 => !r0.getLsbD 0)

/-- `KP.SCAN_ALL t, c` from the energized row `r` on, `c r` being the column nibble observed with row `r` energized
(R102). -/
def macroScanAll (t : Time) (r : BitVec 2) (c : BitVec 2 → BitVec 4) : List Command :=
  [r, r + 1, r + 2, r + 3].map fun q => command .kpScanStep t ((c q).setWidth 64)

/-- `OSC.NOTE i, b` (R102). -/
def macroNote (cfg : Config) (i : Inst) (b : Button) : List Command :=
  [command (.oscSetDelta i) (BitVec.ofNat 64 (cfg.freqTable.getD b.toNat 0)) 0]

/-- `OP.CHAIN_SAW j, k`, `OP.CHAIN_SQUARE j, k` or `OP.CHAIN_SINE j, k`, with `wave` the sampler command: sample `j`,
then load the response into `k` (R102, R297). -/
def macroChain (wave : Inst → Instr) (j k : Inst) : Command × (Bus → Command) :=
  (command (wave j) 0 0, fun r0 => command (.opSetInput k) r0 0)

/-- `KP.TO_OP j`: get an event, then feed it (R102). -/
def macroKeypadToOperator (j : Inst) : Command × (Bus → Bus → Command) :=
  (command .kpGetEvent 0 0, fun r0 r1 => command (.opFeedEvent j) r0 r1)

end Sys2Proof.Machine
end

