-- ==== Sys2Proof/Tests/Slice0.lean ====
section
/-! SUPPORT. Tests of the model: which terms and words are accepted and refused, one decoded word per command, one
step per command with the values of spec/95_test_vectors.md, and for each statement with hypotheses a state and
operands that meet them. Expected values come from the spec's vectors or, where a comment says so, from the rule by
hand. -/

namespace Sys2Proof.Machine.Tests

-- One theorem after another: the kernel evaluations would each hold a thread of their own while they wait.
set_option Elab.async false

/-! ### Small states -/

/-- Reset, with the command port's A and B driven. -/
def port (a b : Bus) : State := { State.reset with a := a, b := b }

/-- Reset, with one oscillator. -/
def withOsc (phase delta : Word32) (a b : Bus) : State := { port a b with osc := [⟨phase, delta⟩] }

/-- Reset, with operator 0's oscillator and envelope value. -/
def withOp (phase delta : Word32) (env : Nat) : State :=
  { State.reset with op := [⟨⟨phase, delta⟩, ⟨.off, env⟩, 0⟩, Operator.reset] }

/-- Reset under profile (1000, 2000, 8192, 4000), with the envelope generator's state (vector A1). -/
def withEnv (st : EnvState) (env : Nat) (a b : Bus) : State :=
  { State.resetWith { Config.reference with profileAdsr := [⟨1000, 2000, 8192, 4000⟩] } with
    adsr := [⟨st, env⟩], a := a, b := b }

/-- Reset, with `n` words in the queue. -/
def withQueue (n : Nat) (a : Bus) (phase : Phase) : State :=
  { State.reset with txq := List.replicate n 0x10000, a := a, phase := phase }

/-- Reset, with the keypad in the given state. -/
def withKp (k : Keypad) (a b : Bus) : State := { port a b with kp := k }

/-- What a command answers on R0 and R1. -/
def answers (i : Instr) (s : State) : Option (Bus × Bus) :=
  match exec i s with
  | .next t => some (t.r0, t.r1)
  | _ => none

/-- The state a command leaves. -/
def leaves (i : Instr) (s : State) : Option State :=
  match exec i s with
  | .next t => some t
  | _ => none

/-- The fault a command meets. -/
def faults (i : Instr) (s : State) : Option Fault :=
  match exec i s with
  | .fault f => some f
  | _ => none

/-- The state one step of the machine leaves. -/
def stepped (s : State) : Option State :=
  match step s with
  | .next t => some t
  | _ => none

/-- The state that `k` steps of the machine lead to. -/
def ran (k : Nat) (s : State) : Option State :=
  match Host.Core.run Sys2Proof.core k s with
  | .next t => some t
  | _ => none

theorem ran_eq_some {k : Nat} {s t : State} (h : ran k s = some t) :
    Host.Core.run Sys2Proof.core k s = .next t := by
  unfold ran at h
  split at h
  · rename_i heq
    rw [heq, Option.some.inj h]
  · cases h

/-- One step that issues a command word with operands 0, from reset. -/
def issued (w : Nat) : Option State := stepped (State.reset.withFetchWord 16 w)

/-! ### Well-formedness: the reference configuration has 1 instance of each counted unit and 2 operators -/

theorem test_wf_accepts_last_instances :
    (Instr.oscTick 0).wellFormed Config.reference = true ∧ (Instr.opTick 1).wellFormed Config.reference = true ∧
    Instr.kpRead.wellFormed Config.reference = true := by decide

theorem test_wf_refuses_osc_instance : (Instr.oscTick 1).wellFormed Config.reference = false := by decide
theorem test_wf_refuses_gf_instance : (Instr.gfSample 1).wellFormed Config.reference = false := by decide
theorem test_wf_refuses_qd_instance : (Instr.qdRead 1).wellFormed Config.reference = false := by decide
theorem test_wf_refuses_adsr_instance : (Instr.adsrFeed 1).wellFormed Config.reference = false := by decide
theorem test_wf_refuses_op_instance : (Instr.opSine 2).wellFormed Config.reference = false := by decide

theorem test_wf_refuses_absent_unit :
    (Instr.oscTick 0).wellFormed { Config.reference with nOsc := 0 } = false := by decide

/-! ### Decoding: words written out from the opcode map of R98 -/

theorem test_decode_osc :
    decode 0x0005 = .ok (.oscTick 5) ∧ decode 0x0106 = .ok (.oscSetFreq 6) ∧ decode 0x0207 = .ok (.oscSetDelta 7) ∧
    decode 0x0308 = .ok (.oscTickMod 8) ∧ decode 0x0409 = .ok (.oscSaw 9) ∧ decode 0x050A = .ok (.oscSquare 10) ∧
    decode 0x060B = .ok (.oscSine 11) ∧ decode 0x070C = .ok (.oscRead 12) := by decide

theorem test_decode_gf_qd :
    decode 0x1001 = .ok (.gfSample 1) ∧ decode 0x1180 = .ok (.gfRead 128) ∧ decode 0x20FF = .ok (.qdSample 255) ∧
    decode 0x2102 = .ok (.qdRead 2) := by decide

theorem test_decode_kp :
    decode 0x3000 = .ok .kpScanStep ∧ decode 0x3100 = .ok .kpGetEvent ∧ decode 0x3200 = .ok .kpRead := by decide

theorem test_decode_adsr :
    decode 0x4003 = .ok (.adsrFeed 3) ∧ decode 0x4104 = .ok (.adsrTick 4) ∧ decode 0x4205 = .ok (.adsrApply 5) ∧
    decode 0x4306 = .ok (.adsrRead 6) := by decide

theorem test_decode_op :
    decode 0x5001 = .ok (.opTick 1) ∧ decode 0x5102 = .ok (.opFeedEvent 2) ∧ decode 0x5203 = .ok (.opSetInput 3) ∧
    decode 0x5304 = .ok (.opSaw 4) ∧ decode 0x5405 = .ok (.opSquare 5) ∧ decode 0x5506 = .ok (.opSine 6) ∧
    decode 0x5607 = .ok (.opRead 7) := by decide

theorem test_decode_mix_i2s_sys :
    decode 0x6000 = .ok .mixMix ∧ decode 0x7000 = .ok .i2sIsWritable ∧ decode 0x7100 = .ok .i2sWrite ∧
    decode 0x7200 = .ok .i2sWriteBlocking ∧ decode 0x7300 = .ok .i2sWriteMono ∧
    decode 0x7400 = .ok .i2sWriteMonoBlocking ∧ decode 0x7500 = .ok .i2sStatus ∧
    decode 0xF000 = .ok .sysStatus := by decide

theorem test_decode_refuses_reserved_units :
    decode 0x8000 = .error .reservedUnit ∧ decode 0xEFFF = .error .reservedUnit := by decide

theorem test_decode_refuses_unlisted_ops :
    decode 0x0800 = .error .unlistedOp ∧ decode 0x1200 = .error .unlistedOp ∧ decode 0x2200 = .error .unlistedOp ∧
    decode 0x3300 = .error .unlistedOp ∧ decode 0x4400 = .error .unlistedOp ∧ decode 0x5700 = .error .unlistedOp ∧
    decode 0x6100 = .error .unlistedOp ∧ decode 0x7600 = .error .unlistedOp ∧
    decode 0xF100 = .error .unlistedOp := by decide

theorem test_decode_refuses_second_instance :
    decode 0x3001 = .error .noSuchInstance ∧ decode 0x6001 = .error .noSuchInstance ∧
    decode 0x75FF = .error .noSuchInstance ∧ decode 0xF001 = .error .noSuchInstance := by decide

theorem test_table_word_reads_low_bits :
    decodeTableWord 16 0x5405 = some (.opSquare 5) ∧ decodeTableWord 16 0x8000 = none := by decide

/-! ### Oscillator (vectors of section 3) -/

theorem test_osc_tick_wraps :
    (leaves (.oscTick 0) (withOsc 0xFFFFFFF0 0x20 0 0)).map State.osc = some [⟨0x10, 0x20⟩] := by decide +kernel

/-- The largest operand: the quotient 5864062013 wraps; bits 63:32 of A are ignored. -/
theorem test_osc_set_freq_wraps :
    (leaves (.oscSetFreq 0) (withOsc 7 0 0x5FFFFFFFF 0)).map State.osc = some [⟨7, 1569094717⟩] := by
  decide +kernel

theorem test_osc_set_delta_takes_low_word :
    (leaves (.oscSetDelta 0) (withOsc 7 0 0x1234567800000001 0)).map State.osc = some [⟨7, 1⟩] := by decide +kernel

/-- Rows 5 and 6 of the TICK_MOD table: a negative input, and a 48-bit perturbation. -/
theorem test_osc_tick_mod :
    (leaves (.oscTickMod 0) (withOsc 0 0x01000000 0xFFFFFFFFFFFFFFFF 0x10000)).map State.osc =
      some [⟨0x00FFFE00, 0x01000000⟩] ∧
    (leaves (.oscTickMod 0) (withOsc 0x10 0xFFFFFFFF 32767 0xFFFFFFFF)).map State.osc =
      some [⟨0xFFFE0013, 0xFFFFFFFF⟩] := by decide +kernel

theorem test_osc_saw :
    answers (.oscSaw 0) (withOsc 0x80000000 1 0 0) = some (BitVec.ofInt 64 (-32768), 0) ∧
    answers (.oscSaw 0) (withOsc 0x12345678 1 0 0) = some (4660, 0) := by decide +kernel

theorem test_osc_square :
    answers (.oscSquare 0) (withOsc 0x7FFFFFFF 1 0 0) = some (32767, 0) ∧
    answers (.oscSquare 0) (withOsc 0x80000000 1 0 0) = some (BitVec.ofInt 64 (-32768), 0) ∧
    answers (.oscSquare 0) (withOsc 0x670A3D6F 0 0 0) = some (0, 0) := by decide +kernel

theorem test_osc_sine :
    answers (.oscSine 0) (withOsc 0x12345678 1 0 0) = some (14100, 0) ∧
    answers (.oscSine 0) (withOsc 0x83FFFFFF 1 0 0) = some (BitVec.ofInt 64 (-3195), 0) ∧
    answers (.oscSine 0) (withOsc 0xFFFFFFFF 1 0 0) = some (BitVec.ofInt 64 (-1), 0) := by decide +kernel

theorem test_osc_read :
    answers (.oscRead 0) (withOsc 0x10 0x20 0 0) = some (0x0000002000000010, 0) := by decide +kernel

/-! ### Glitch filter and quadrature decoder (sections 4 and 5) -/

theorem test_gf_sample_reports_fourth_one :
    answers (.gfSample 0) { port 1 0 with gf := [⟨0x7, false⟩] } = some (3, 0) ∧
    answers (.gfSample 0) { port 2 0 with gf := [⟨0x7, false⟩] } = some (0, 0) := by decide +kernel

theorem test_gf_read :
    answers (.gfRead 0) { State.reset with gf := [⟨0xF, true⟩] } = some (0x10000000F, 0) := by decide +kernel

/-- A rises while B is clear: increment. Both rise together: no event. -/
theorem test_qd_sample :
    answers (.qdSample 0) { port 1 0 with qd := [⟨⟨0x7, false⟩, ⟨0, false⟩⟩] } = some (1, 0) ∧
    answers (.qdSample 0) { port 2 0 with qd := [⟨⟨0, false⟩, ⟨0x7, false⟩⟩] } = some (2, 0) ∧
    answers (.qdSample 0) { port 3 0 with qd := [⟨⟨0x7, false⟩, ⟨0x7, false⟩⟩] } = some (0, 0) := by decide +kernel

theorem test_qd_read :
    answers (.qdRead 0) { State.reset with qd := [⟨⟨0, false⟩, ⟨0xF, true⟩⟩] } =
      some (0x2, 0x0000000F00000000) := by decide +kernel

/-! ### Keypad (section 6) -/

theorem test_kp_scan_step_presses_in_column_order :
    (leaves .kpScanStep (port 10 0xB)).map State.kp = some ⟨1, 0x000B, [0, 1, 3], none, true, 10⟩ := by
  decide +kernel

/-- K7: the last released button pressed again clears `last_rel`. -/
theorem test_kp_scan_step_clears_last_released :
    (leaves .kpScanStep (withKp ⟨0, 0, [], some 3, false, 90⟩ 130 8)).map State.kp =
      some ⟨1, 0x0008, [3], none, true, 130⟩ := by decide +kernel

theorem test_kp_get_event_pressed :
    answers .kpGetEvent (withKp ⟨1, 0x000B, [0, 1, 3], none, true, 10⟩ 0 0) = some (10, 0x31) := by decide +kernel

theorem test_kp_get_event_released :
    answers .kpGetEvent (withKp ⟨1, 0, [], some 3, true, 90⟩ 0 0) = some (90, 0x33) := by decide +kernel

/-- K3's read-back. -/
theorem test_kp_read :
    answers .kpRead (withKp ⟨1, 0x0009, [0, 3], some 1, true, 50⟩ 0 0) = some (0x11890009, 0x30) := by decide +kernel

/-! ### Envelope generator (section 7) -/

theorem test_adsr_feed_press :
    (leaves (.adsrFeed 0) (withEnv .off 0 1000 0x01)).map State.adsr = some [⟨.attack 1000 2000 4000, 0⟩] := by
  decide +kernel

theorem test_adsr_feed_overflow :
    faults (.adsrFeed 0) (port 0xFFFFFFFFFFFFFFFF 0x01) = some .deadlineOverflow := by decide +kernel

theorem test_adsr_tick_decays :
    (leaves (.adsrTick 0) (withEnv (.attack 1000 2000 4000) 0 2999 0)).map State.adsr =
      some [⟨.decay 2000 4000, 20492⟩] := by decide +kernel

theorem test_adsr_tick_before_start :
    faults (.adsrTick 0) (withEnv (.attack 1000 2000 4000) 0 999 0) = some .timeBeforeStateStart := by decide +kernel

theorem test_adsr_apply_floors :
    answers (.adsrApply 0) (withEnv .off 16384 (BitVec.ofInt 64 (-12345)) 0) = some (BitVec.ofInt 64 (-6173), 0) ∧
    answers (.adsrApply 0) (withEnv .off 32767 0x8000 0) = some (BitVec.ofInt 64 (-32767), 0) := by decide +kernel

theorem test_adsr_read :
    answers (.adsrRead 0) (withEnv (.release 10000 8192 14000) 4096 0 0) = some (4096, 4) := by decide +kernel

/-! ### Operator (section 8) -/

/-- OP.SET_INPUT -16384 and then OP.TICK: phase 0x0080_0000, the envelope stays Off. -/
theorem test_op_tick_modulates :
    (leaves (.opTick 0) { State.reset with op := [⟨⟨0, 0x01000000⟩, ⟨.off, 0⟩, -16384⟩, Operator.reset] }).map
      State.op = some [⟨⟨0x00800000, 0x01000000⟩, ⟨.off, 0⟩, -16384⟩, Operator.reset] := by decide +kernel

theorem test_op_feed_event_loads_delta :
    (leaves (.opFeedEvent 0) (port 0 0x61)).map State.op =
      some [⟨⟨0, 0x0258BF25⟩, ⟨.attack 0 1000 2000, 0⟩, 0⟩, Operator.reset] := by decide +kernel

/-- A released event sets the delta too: button 0 is silence. -/
theorem test_op_feed_event_released :
    (leaves (.opFeedEvent 0) { port 10 0x03 with
      op := [⟨⟨0, 0x0258BF25⟩, ⟨.attack 0 1000 2000, 0⟩, 0⟩, Operator.reset] }).map State.op =
      some [⟨⟨0, 0⟩, ⟨.release 10 0 2010, 0⟩, 0⟩, Operator.reset] := by decide +kernel

theorem test_op_set_input :
    (leaves (.opSetInput 1) (port 0xFFFFFFFFFFFFC000 0)).map State.op =
      some [Operator.reset, ⟨Osc.reset, Adsr.reset, -16384⟩] := by decide +kernel

theorem test_op_saw : answers (.opSaw 0) (withOp 0x40000000 1 16384) = some (8192, 0) := by decide +kernel
theorem test_op_square :
    answers (.opSquare 0) (withOp 0xC0000000 1 32767) = some (BitVec.ofInt 64 (-32767), 0) := by decide +kernel
theorem test_op_sine : answers (.opSine 0) (withOp 0x40000000 1 16384) = some (16383, 0) := by decide +kernel

/-- P3 step 4. -/
theorem test_op_read :
    answers (.opRead 0) { State.reset with
      op := [⟨⟨0x0258BF25, 0x0258BF25⟩, ⟨.attack 0 1000 2000, 0x3FFF⟩, 0⟩, Operator.reset] } =
      some (0x0258BF250258BF25, 0x100003FFF) := by decide +kernel

/-! ### Mixer (section 9) -/

theorem test_weights :
    largestRemainder 32767 [1, 2, 3] = [5461, 10922, 16384] ∧
    largestRemainder 32767 [3, 3, 3, 1] = [9830, 9830, 9830, 3277] ∧
    largestRemainder 32767 [1, 1000000] = [0, 32767] := by decide +kernel

theorem test_mix :
    answers .mixMix { State.reset with v := [0xFFFFFFFF, 0] } = some (BitVec.ofInt 64 (-1), 0) ∧
    answers .mixMix { State.reset with v := [936, 963] } = some (949, 0) := by decide +kernel

/-! ### Output driver (section 10) -/

theorem test_i2s_is_writable :
    answers .i2sIsWritable (withQueue 2 0 .idle) = some (1, 0) ∧
    answers .i2sIsWritable (withQueue 3 0 .idle) = some (0, 0) := by decide +kernel

theorem test_i2s_write :
    (leaves .i2sWrite (withQueue 0 0xFFFE .active)).map State.txq = some [0xFFFE0000] ∧
    (leaves .i2sWrite (withQueue 4 5 .active)).map (fun t => (t.txq.length, t.txover)) = some (4, true) := by
  decide +kernel

theorem test_i2s_write_blocking :
    (leaves .i2sWriteBlocking (withQueue 0 1 .active)).map State.txq = some [0x10000] ∧
    leaves .i2sWriteBlocking (withQueue 4 5 .active) = some (withQueue 4 5 .active) := by decide +kernel

theorem test_i2s_write_mono :
    (leaves .i2sWriteMono (withQueue 0 0xFFFF .active)).map (fun t => (t.txq, t.phase)) =
      some ([0xFFFF0000], .second) ∧
    (leaves .i2sWriteMono (withQueue 4 9 .second)).map (fun t => (t.txover, t.phase)) =
      some (true, .idle) := by decide +kernel

theorem test_i2s_write_mono_blocking :
    (leaves .i2sWriteMonoBlocking (withQueue 3 1 .second)).map (fun t => (t.txq.length, t.phase)) =
      some (4, .idle) ∧
    leaves .i2sWriteMonoBlocking (withQueue 4 1 .second) = some (withQueue 4 1 .second) := by decide +kernel

/-- The STATUS table: WRITE -2 from reset, then one and two steps of the sequencer. -/
theorem test_i2s_status :
    answers .i2sStatus (seqRun 1 (State.reset.push 0xFFFE0000)) = some (0x1, 0x6004) ∧
    answers .i2sStatus (seqRun 2 (State.reset.push 0xFFFE0000)) = some (0x1, 0x4105) ∧
    answers .i2sStatus State.reset = some (0x20001, 0) := by decide +kernel

/-- 0x8001 sent alone under WS_LEAD = 1: word-select changes with the last bit of the left word. -/
theorem test_sequencer_sends_word :
    receivedBits (State.reset.push 0x80010000) =
      [true, false, false, false, false, false, false, false, false, false, false, false, false, false, false, true] ∧
    (seqRun 31 ((State.resetWith { Config.reference with wsLead := true }).push 0x80010000)).seq.ws = true ∧
    (seqRun 29 ((State.resetWith { Config.reference with wsLead := true }).push 0x80010000)).seq.ws = false := by
  decide +kernel

/-! ### System, configuration, reset (sections 11 and 12) -/

theorem test_sys_status_reports_lowest_code :
    answers .sysStatus (State.resetWith { Config.reference with rate := 44000, w := 20 }) = some (0x0102, 0) ∧
    answers .sysStatus (State.resetWith { Config.reference with levels := [1, 1000000] }) = some (0x0502, 0) := by
  decide +kernel

theorem test_illegal_word_sets_sticky_bit :
    (issued 0x8000).map (fun t => (t.illegal, t.r0, t.phase)) = some (true, 0, .idle) ∧
    (issued 0x0001).map State.illegal = some true ∧ (issued 0xF000).map State.illegal = some false := by
  decide +kernel

theorem test_halted_block_ignores_illegal_word :
    (stepped ((State.resetWith { Config.reference with rate := 44000 }).withFetchWord 16 0x8000)).map
      (fun t => (t.illegal, t.r0, t.phase)) = some (false, 0, .idle) := by decide +kernel

theorem test_reset_is_legal_and_stalled :
    Config.reference.errorCode = 0 ∧ State.reset.halted = false ∧ State.reset.stalled = true ∧
    State.reset.rowLevel 0 = true ∧ State.reset.sideOutput = 0 := by decide +kernel

/-! ### A state and operands that meet the hypotheses of each statement -/

/-- A host turn with one command still to issue. -/
def hostNext (i : Instr) : State := State.reset.withFetchWord 16 (encode i).toNat

theorem reference_legal : Config.reference.Legal := by decide +kernel

theorem reset_keypad_wf : Keypad.reset.wf := by
  refine ⟨fun b => ?_, by decide, ?_⟩ <;> simp [Keypad.reset, Keypad.isPressed]

theorem reset_wf : State.reset.wf := by
  refine ⟨by decide +kernel, by decide +kernel, by decide +kernel, by decide +kernel, reset_keypad_wf, by decide +kernel,
    by decide +kernel, by decide +kernel, by decide +kernel, ?_, by decide +kernel, by decide +kernel⟩
  simp [State.reset, State.resetWith]

theorem witness_HostTurnRunsDecodedCommand :
    ((hostNext .kpRead).turns = .host :: [] ∧ (hostNext .kpRead).phase = .idle ∧
      (hostNext .kpRead).todo = ⟨0x3200, 0, 0, []⟩ :: [] ∧ decode 0x3200 = .ok .kpRead) ∧
    ({ withQueue 4 5 .active with cmd := 0x7200, turns := [.host] }.turns = .host :: [] ∧
      { withQueue 4 5 .active with cmd := 0x7200, turns := [.host] }.phase ≠ .idle ∧
      decode { withQueue 4 5 .active with cmd := 0x7200, turns := [.host] }.cmd = .ok .i2sWriteBlocking) := by
  decide +kernel

/-- The first and last words of each illegal kind under the reference configuration. -/
theorem witness_IllegalCommandSetsStickyBit :
    ((State.reset.withFetchWord 16 0x8000).turns = .host :: [] ∧ (State.reset.withFetchWord 16 0x8000).phase = .idle ∧
      (State.reset.withFetchWord 16 0x8000).todo = ⟨0x8000, 0, 0, []⟩ :: [] ∧
      (State.reset.withFetchWord 16 0x8000).halted = false) ∧
    illegalWord Config.reference 0x8000 ∧ illegalWord Config.reference 0xEFFF ∧ illegalWord Config.reference 0x0800 ∧
    illegalWord Config.reference 0x0001 ∧ ¬ illegalWord Config.reference 0x0700 ∧
    leaves .kpRead { State.reset with illegal := true } =
      some { State.reset with illegal := true, r0 := 0, r1 := 0, phase := .idle } := by
  unfold illegalWord
  decide +kernel

/-- A halted block: rate 44000. -/
def haltedState : State := State.resetWith { Config.reference with rate := 44000 }

theorem witness_HaltedBlockOnlyAnswersStatus :
    haltedState.halted = true ∧ Instr.oscTick 0 ≠ .sysStatus ∧
    decode { haltedState with cmd := 0x8000 }.cmd = .error .reservedUnit ∧
    (haltedState.withFetchWord 16 0x0700).turns.head? ≠ some .reset ∧
    (stepped (haltedState.withFetchWord 16 0x0700)).isSome = true := by decide +kernel

theorem witness_OnlyContractCommandsStop :
    faults (.adsrTick 0) (withEnv (.attack 1000 2000 4000) 0 999 0) = some .timeBeforeStateStart ∧
    faults (.opFeedEvent 1) (port 0xFFFFFFFFFFFFFFFF 0x61) = some .deadlineOverflow := by decide +kernel

theorem witness_RunsWithoutContractCommandsGoOn :
    wordHasContract (hostNext .kpScanStep).cmd = false ∧
    ∀ c ∈ (hostNext .kpScanStep).todo, wordHasContract c.cmd = false := by decide +kernel

theorem witness_StepKeepsWellFormed :
    (hostNext .kpScanStep).wf ∧ (stepped (hostNext .kpScanStep)).isSome = true := by
  refine ⟨⟨by decide +kernel, by decide +kernel, by decide +kernel, by decide +kernel, reset_keypad_wf,
    by decide +kernel, by decide +kernel, by decide +kernel, by decide +kernel, ?_, by decide +kernel,
    by decide +kernel⟩, by decide +kernel⟩
  simp [hostNext, State.withFetchWord, State.reset, State.resetWith]

theorem witness_KeypadInvariantsKept :
    { hostNext .kpScanStep with kp := ⟨3, 0xFFFF, (List.range 16).map (BitVec.ofNat 4), none, true, 1⟩ }.kp.wf ∧
    (stepped { hostNext .kpScanStep with
      kp := ⟨3, 0xFFFF, (List.range 16).map (BitVec.ofNat 4), none, true, 1⟩ }).isSome = true := by decide +kernel

theorem witness_CommandsLeaveSequencerAlone :
    (leaves .i2sWrite (withQueue 3 5 .active)).isSome = true ∧
    (leaves .i2sWrite (withQueue 4 5 .active)).isSome = true := by decide +kernel

theorem witness_SequencerTakesOnlyOldestWord :
    { withQueue 2 0 .idle with turns := [.sequencer] }.turns = .sequencer :: [] ∧
    (stepped { withQueue 2 0 .idle with turns := [.sequencer] }).map State.level = some 1 := by decide +kernel

theorem witness_StickyBitsClearedOnlyByReset :
    { hostNext .i2sWrite with illegal := true, txover := true }.turns.head? ≠ some .reset ∧
    { hostNext .i2sWrite with illegal := true, txover := true }.illegal = true ∧
    { hostNext .i2sWrite with illegal := true, txover := true }.txover = true ∧
    (stepped { hostNext .i2sWrite with illegal := true, txover := true }).isSome = true := by decide +kernel

theorem witness_ReadsChangeNothingAndRepeat :
    isReadOnly (.opRead 1) = true ∧ (withOp 5 6 7).halted = false ∧
    (Instr.opRead 1).wellFormed (withOp 5 6 7).cfg = true := by decide +kernel

/-- For OscTickAddsDelta, OscSetLoadsDelta and OscSquareFollowsTopBit. -/
theorem witness_OscCommands :
    (withOsc 5 6 7 8).halted = false ∧ (0 : Inst).toNat < (withOsc 5 6 7 8).cfg.nOsc := by decide +kernel

theorem witness_OscTickModPerturbsPhase :
    (withOsc 5 6 0x8000 8).halted = false ∧ (0 : Inst).toNat < (withOsc 5 6 0x8000 8).cfg.nOsc ∧
    0 < (withOsc 5 6 0x8000 8).cfg.w ∧
    IsSampleOf (withOsc 5 6 0x8000 8).cfg (withOsc 5 6 0x8000 8).a.toNat (-32768) := by decide +kernel

/-- For OscSawReadsTopBits and SineTableReadsInRange. -/
theorem witness_OscSawReadsTopBits :
    (withOsc 0xFFFFFFFF 6 0 0).halted = false ∧ (0 : Inst).toNat < (withOsc 0xFFFFFFFF 6 0 0).cfg.nOsc ∧
    (withOsc 0xFFFFFFFF 6 0 0).cfg.Legal := by decide +kernel

/-- The last interval of the table, whose second entry is the first of the table. -/
theorem witness_OscSineInterpolatesTable :
    (withOsc 0xFFFFFFFF 6 0 0).halted = false ∧ (0 : Inst).toNat < (withOsc 0xFFFFFFFF 6 0 0).cfg.nOsc ∧
    (withOsc 0xFFFFFFFF 6 0 0).cfg.Legal ∧
    31 = ((withOsc 0xFFFFFFFF 6 0 0).oscAt 0).phase.toNat / (2 ^ 32 / (withOsc 0xFFFFFFFF 6 0 0).cfg.l) ∧
    (withOsc 0xFFFFFFFF 6 0 0).cfg.sineTable[31]? = some (-6392) ∧
    (withOsc 0xFFFFFFFF 6 0 0).cfg.sineTable[(31 + 1) % (withOsc 0xFFFFFFFF 6 0 0).cfg.l]? = some 0 := by
  decide +kernel

theorem witness_RegisterReadBacks :
    State.reset.halted = false ∧ (0 : Inst).toNat < State.reset.cfg.nOsc ∧ (0 : Inst).toNat < State.reset.cfg.nAdsr ∧
    (1 : Inst).toNat < State.reset.cfg.nOp ∧ (State.reset.opAt 1).adsr.env < 2 ^ 32 := by decide +kernel

/-- Three ticks between a sampler and a mixer command, and a word the sequencer sends meanwhile. -/
def tickRun : State :=
  { withOsc 5 0x40000000 0 0 with
    txq := [0x10000]
    todo := [command (.oscTick 0) 0 0, command .mixMix 0 0, command (.oscTick 0) 0 0, command (.oscSaw 0) 0 0]
    turns := [.host, .sequencer, .host, .host, .sequencer, .host] }

/-- Where the run ends: all four commands performed. -/
def tickRunEnd : State := (ran 6 tickRun).getD State.reset

theorem witness_OscPhaseIsPeriodic :
    tickRun.halted = false ∧ (0 : Inst).toNat < tickRun.cfg.nOsc ∧ tickRun.osc.length = tickRun.cfg.nOsc ∧
    tickRun.phase = .idle ∧ .reset ∉ tickRun.turns ∧
    (∀ c ∈ tickRun.todo, writesOsc 0 c = true → ticksOsc 0 c = true) ∧
    Host.Core.run Sys2Proof.core 6 tickRun = .next tickRunEnd ∧
    2 = tickRun.todo.countP (ticksOsc 0) - tickRunEnd.todo.countP (ticksOsc 0) :=
  ⟨by decide +kernel, by decide +kernel, by decide +kernel, by decide +kernel, by decide +kernel, by decide +kernel,
    ran_eq_some (by decide +kernel), by decide +kernel⟩

theorem witness_SineIsContinuous :
    Config.reference.Legal ∧ ∀ k, k < Config.reference.l →
      |sineEntry Config.reference (k + 1) - sineEntry Config.reference k| ≤ Config.reference.span := by
  decide +kernel

/-- The three outcomes of a sample: to set, to clear, no change. -/
theorem witness_GfSampleDebounces :
    State.reset.halted = false ∧ (0 : Inst).toNat < State.reset.cfg.nGf ∧
    (15 = (7 * 2 + (port 1 0).a.toNat % 2) % 2 ^ Config.reference.n ∧ 15 = 2 ^ Config.reference.n - 1) ∧
    0 = (8 * 2 + (port 0 0).a.toNat % 2) % 2 ^ Config.reference.n ∧
    1 = (0 * 2 + (port 1 0).a.toNat % 2) % 2 ^ Config.reference.n := by decide +kernel

theorem witness_FilterFollowsLastSamples :
    1 ≤ Config.reference.n ∧ 3 < Config.reference.n ∧ 3 < [true, false, true, true].length := by decide

theorem witness_QdSampleReportsRotation :
    (port 3 0).halted = false ∧ (0 : Inst).toNat < (port 3 0).cfg.nQd ∧
    (⟨1, false⟩ : Filter) = (gfStep (port 3 0).cfg ((port 3 0).qdAt 0).a ((port 3 0).a.getLsbD 0)).1 ∧
    (⟨1, false⟩ : Filter) = (gfStep (port 3 0).cfg ((port 3 0).qdAt 0).b ((port 3 0).a.getLsbD 1)).1 := by
  decide +kernel

theorem witness_QdDirectionTable :
    (⟨⟨15, true⟩, ⟨0, false⟩⟩, .increment) =
      qdStep Config.reference ⟨⟨7, false⟩, ⟨0, false⟩⟩ true false := by decide +kernel

theorem witness_FilterReadBacks :
    State.reset.halted = false ∧ State.reset.cfg.n ≤ 32 ∧ 1 ≤ State.reset.cfg.n ∧
    (0 : Inst).toNat < State.reset.cfg.nGf ∧ (State.reset.gfAt 0).wf State.reset.cfg ∧
    (0 : Inst).toNat < State.reset.cfg.nQd ∧ (State.reset.qdAt 0).wf State.reset.cfg := by decide +kernel

/-- In row 0 button 1 is released and button 0 pressed; button 3 is still held. -/
theorem witness_KpScanStepTracksRow :
    (withKp ⟨0, 0x000A, [3, 1], some 0, true, 1⟩ 2 0b1001).halted = false ∧
    (withKp ⟨0, 0x000A, [3, 1], some 0, true, 1⟩ 2 0b1001).kp.wf ∧
    [0, 1, 2, 3] = [0, 1, 2, 3].map (fun col => BitVec.ofNat 4 (4 * (0 : BitVec 2).toNat + col)) ∧
    [0] = [0, 1, 2, 3].filter (fun b : Button => (0b1001 : Bus).getLsbD (b.toNat % 4) &&
      !(withKp ⟨0, 0x000A, [3, 1], some 0, true, 1⟩ 2 0b1001).kp.isPressed b) ∧
    [1] = [0, 1, 2, 3].filter (fun b : Button => !(0b1001 : Bus).getLsbD (b.toNat % 4) &&
      (withKp ⟨0, 0x000A, [3, 1], some 0, true, 1⟩ 2 0b1001).kp.isPressed b) := by decide +kernel

/-- For KpGetEventSurfacesOneEvent, each clause, and KpReadShowsStack. -/
theorem witness_KpGetEventSurfacesOneEvent :
    State.reset.halted = false ∧ State.reset.kp.changed = false ∧
    ((withKp ⟨0, 0x8001, [0, 15], none, true, 1⟩ 0 0).kp.changed = true ∧
      (withKp ⟨0, 0x8001, [0, 15], none, true, 1⟩ 0 0).kp.stack = [0] ++ [15] ∧
      (withKp ⟨0, 0x8001, [0, 15], none, true, 1⟩ 0 0).kp.wf) ∧
    ((withKp ⟨0, 0, [], some 15, true, 1⟩ 0 0).kp.changed = true ∧
      (withKp ⟨0, 0, [], some 15, true, 1⟩ 0 0).kp.stack = [] ∧
      (withKp ⟨0, 0, [], some 15, true, 1⟩ 0 0).kp.lastRel = some 15) ∧
    (withKp ⟨0, 0, [], none, true, 1⟩ 0 0).kp.changed = true ∧ (withKp ⟨0, 0, [], none, true, 1⟩ 0 0).kp.stack = [] ∧
    (withKp ⟨0, 0, [], none, true, 1⟩ 0 0).kp.lastRel = none := by decide +kernel

/-- The configuration of vector A1. -/
def configA1 : Config := { Config.reference with profileAdsr := [⟨1000, 2000, 8192, 4000⟩] }

/-- The hypotheses all clauses of an envelope statement share, in every one of the states the clauses use. -/
theorem witness_AdsrShared (st : EnvState) (env : Nat) (a b : Bus) :
    (withEnv st env a b).halted = false ∧ (0 : Inst).toNat < (withEnv st env a b).cfg.nAdsr ∧
    (withEnv st env a b).cfg.Legal ∧ (withEnv st env a b).cfg.profileAdsr[(0 : Inst).toNat]? =
      some ⟨1000, 2000, 8192, 4000⟩ ∧ (withEnv st env a b).adsr[(0 : Inst).toNat]? = some ⟨st, env⟩ ∧
    (withEnv st env a b).a = a ∧ (withEnv st env a b).b = b ∧ (withEnv st env a b).Sized := by
  have halted : (State.resetWith configA1).halted = false := by decide +kernel
  have legal : configA1.Legal := by decide +kernel
  exact ⟨halted, (by decide : (0 : Inst).toNat < configA1.nAdsr), legal, rfl, rfl, rfl, rfl, rfl, rfl, rfl, rfl, rfl⟩

/-- Each clause, at the greatest and least times on either side of `2^64`. -/
theorem witness_AdsrFeedTransitions :
    (0x60 : Bus).getLsbD 0 = false ∧
    ((0x01 : Bus).getLsbD 0 = true ∧ (0x01 : Bus).getLsbD 1 = false ∧
      (0xFFFFFFFFFFFFF447 : Bus).toNat + 1000 + 2000 < 2 ^ 64 ∧
      2 ^ 64 ≤ (0xFFFFFFFFFFFFF448 : Bus).toNat + 1000 + 2000) ∧
    ((0x03 : Bus).getLsbD 0 = true ∧ (0x03 : Bus).getLsbD 1 = true ∧ EnvState.sounding .sustain = true ∧
      (0xFFFFFFFFFFFFF05F : Bus).toNat + 4000 < 2 ^ 64 ∧ 2 ^ 64 ≤ (0xFFFFFFFFFFFFF060 : Bus).toNat + 4000) ∧
    EnvState.sounding .off = false := by decide +kernel

/-- Each clause of Attack(1000, 2000, 4000), Decay(2000, 4000) and Release(10000, v, 14000), at its first and last
time. -/
theorem witness_AdsrTickMovesAndInterpolates :
    ((4000 : Time).toNat ≤ (4000 : Bus).toNat ∧
      ((3999 : Bus).toNat < (4000 : Time).toNat ∧ (2000 : Time).toNat ≤ (2000 : Bus).toNat) ∧
      ((1999 : Bus).toNat < (2000 : Time).toNat ∧ (1000 : Time).toNat ≤ (1000 : Bus).toNat) ∧
      (999 : Bus).toNat < (1000 : Time).toNat) ∧
    ((3999 : Bus).toNat < (4000 : Time).toNat ∧ (2000 : Time).toNat ≤ (2000 : Bus).toNat ∧
      (1999 : Bus).toNat < (2000 : Time).toNat) ∧
    ((14000 : Time).toNat ≤ (14000 : Bus).toNat ∧ (13999 : Bus).toNat < (14000 : Time).toNat ∧
      (10000 : Time).toNat ≤ (10000 : Bus).toNat ∧ (9999 : Bus).toNat < (10000 : Time).toNat) := by decide

theorem witness_AdsrApplyScalesSample :
    (withEnv .off 32767 0x8000 0).halted = false ∧ (0 : Inst).toNat < (withEnv .off 32767 0x8000 0).cfg.nAdsr ∧
    0 < (withEnv .off 32767 0x8000 0).cfg.w ∧
    IsSampleOf (withEnv .off 32767 0x8000 0).cfg (withEnv .off 32767 0x8000 0).a.toNat (-32768) ∧
    ((withEnv .off 32767 0x8000 0).adsrAt 0).env ≤ (withEnv .off 32767 0x8000 0).cfg.emax := by decide +kernel

/-- Two ticks from a state, the second at a later time: the envelope state is the same after both. -/
def tickedTwice (st : EnvState) (first later : Bus) : Bool :=
  match leaves (.adsrTick 0) (withEnv st 0 first 0) with
  | some t =>
    match leaves (.adsrTick 0) { t with a := later } with
    | some u => decide ((u.adsrAt 0).st = (t.adsrAt 0).st ∧ first.toNat ≤ later.toNat)
    | none => false
  | none => false

/-- In each of the five states; the rest is `witness_AdsrShared`. -/
theorem witness_EnvelopeIsMonotone :
    tickedTwice .off 1 2 = true ∧ tickedTwice (.attack 1000 2000 4000) 1000 1999 = true ∧
    tickedTwice (.attack 1000 2000 4000) 2000 3999 = true ∧ tickedTwice .sustain 5 5 = true ∧
    tickedTwice (.release 10000 8192 14000) 10000 13999 = true := by decide +kernel

/-- Reset, with operator 1's envelope state. -/
def withOpEnv (st : EnvState) (a b : Bus) : State :=
  { port a b with op := [Operator.reset, ⟨Osc.reset, ⟨st, 0⟩, 0⟩] }

/-- The hypotheses all clauses of the two operator statements share. -/
theorem witness_OpShared (st : EnvState) (a b : Bus) :
    (withOpEnv st a b).halted = false ∧ (1 : Inst).toNat < (withOpEnv st a b).cfg.nOp ∧
    (withOpEnv st a b).cfg.Legal ∧
    (withOpEnv st a b).cfg.profileOp[(1 : Inst).toNat]? = some ⟨1000, 1000, 16384, 2000⟩ ∧
    (withOpEnv st a b).cfg.ratioOp[(1 : Inst).toNat]? = some 0x10000 ∧
    (withOpEnv st a b).op[(1 : Inst).toNat]? = some ⟨Osc.reset, ⟨st, 0⟩, 0⟩ ∧
    (withOpEnv st a b).a = a ∧ (withOpEnv st a b).b = b := by
  have halted : State.reset.halted = false := by decide +kernel
  exact ⟨halted, (by decide : (1 : Inst).toNat < Config.reference.nOp), reference_legal, rfl, rfl, rfl, rfl, rfl⟩

/-- The host contract kept, at the first time that keeps it, and broken, at the last that breaks it. -/
theorem witness_OpTickAdvancesBothParts :
    TickInTime (.attack 1000 2000 3000) 1000 ∧ ¬ TickInTime (.attack 1000 2000 3000) 999 := by decide +kernel

/-- A button at each end of the table, and a press on either side of the last time that fits. -/
theorem witness_OpFeedEventLoadsNote :
    (⟨false, .pressed, 6⟩ : Event) = eventOperand 0x60 ∧ (⟨true, .pressed, 15⟩ : Event) = eventOperand 0xF1 ∧
    (⟨true, .released, 0⟩ : Event) = eventOperand 0x03 ∧
    Config.reference.freqTable[(15 : Button).toNat]? = some 66213081 ∧
    Config.reference.freqTable[(6 : Button).toNat]? = some 39370533 ∧
    Config.reference.freqTable[(0 : Button).toNat]? = some 0 ∧
    FeedFits ⟨1000, 1000, 16384, 2000⟩ .off 0xFFFFFFFFFFFFF82F ⟨true, .pressed, 15⟩ ∧
    ¬ FeedFits ⟨1000, 1000, 16384, 2000⟩ .off 0xFFFFFFFFFFFFF830 ⟨true, .pressed, 15⟩ := by decide +kernel

theorem witness_OpSetInputLoadsSample :
    (port 0xFFFF8000 0).halted = false ∧ (1 : Inst).toNat < (port 0xFFFF8000 0).cfg.nOp ∧
    0 < (port 0xFFFF8000 0).cfg.w ∧ IsSampleOf (port 0xFFFF8000 0).cfg (port 0xFFFF8000 0).a.toNat (-32768) := by
  decide +kernel

/-- At phase 0x8000_0000 the saw and square samples are -32768 and the sine 0. -/
theorem witness_OpSamplersApplyEnvelope :
    (withOp 0x80000000 1 32767).halted = false ∧ (0 : Inst).toNat < (withOp 0x80000000 1 32767).cfg.nOp ∧
    (withOp 0x80000000 1 32767).cfg.Legal ∧
    IsSampleOf Config.reference ((0x80000000 : Word32).toNat / 2 ^ (32 - Config.reference.w)) (-32768) ∧
    (-32768 : Int) = (if (1 : Word32) = 0 then 0
      else if (0x80000000 : Word32).toNat < 2 ^ 31 then 2 ^ (Config.reference.w - 1) - 1
      else -(2 ^ (Config.reference.w - 1))) ∧
    0 = sine Config.reference 0x80000000 := by decide +kernel

/-- Lane 0 is the greatest sample, lane 1 is not driven. -/
theorem witness_MixIsWeightedSum :
    { State.reset with v := [0x7FFF] }.halted = false ∧ { State.reset with v := [0x7FFF] }.cfg.Legal ∧
    ∀ k, k < { State.reset with v := [0x7FFF] }.cfg.k →
      IsSampleOf { State.reset with v := [0x7FFF] }.cfg ({ State.reset with v := [0x7FFF] }.v.getD k 0).toNat
        (if k = 0 then 32767 else 0) := by decide +kernel

/-- Three equal levels tie: the lower index gets one more. -/
theorem witness_WeightsSumExactly :
    [1, 1, 1] ≠ ([] : List Int) ∧ (∀ x ∈ ([1, 1, 1] : List Int), 0 < x) ∧
    [10923, 10922, 10922] = largestRemainder 32767 [1, 1, 1] := by decide +kernel

/-- For the three write statements, each clause: the last level with room, and the full queue. -/
theorem witness_I2sWrites :
    (withQueue 3 0x8001 .active).halted = false ∧ (withQueue 3 0x8001 .active).cfg.Legal ∧
    (0x80010000 : Word32).toNat = (withQueue 3 0x8001 .active).a.toNat % 2 ^ (withQueue 3 0x8001 .active).cfg.w *
      2 ^ (32 - (withQueue 3 0x8001 .active).cfg.w) ∧
    ((withQueue 3 0x8001 .active).txq.length < (withQueue 3 0x8001 .active).cfg.q ∧
      (withQueue 3 0x8001 .active).phase ≠ .second ∧ (withQueue 3 0x8001 .second).phase = .second) ∧
    (withQueue 4 0x8001 .active).cfg.q ≤ (withQueue 4 0x8001 .active).txq.length := by decide +kernel

theorem witness_I2sStatusShowsDriver :
    (withQueue 4 0 .idle).halted = false ∧ (withQueue 4 0 .idle).txq.length ≤ 255 := by decide +kernel

theorem witness_QueueWordIsLeftAligned :
    Config.reference.Legal ∧ Config.reference.IsSample (-32768) ∧ Config.reference.IsSample 32767 := by decide +kernel

theorem witness_SerialWordRoundTrips :
    (State.reset.push 0x80000000).halted = false ∧ (State.reset.push 0x80000000).cfg.Legal ∧
    (State.reset.push 0x80000000).cfg.IsSample (-32768) ∧
    (State.reset.push 0x80000000).txq = txWord (State.reset.push 0x80000000).cfg (-32768) :: [] ∧
    (State.reset.push 0x80000000).seq.half = false ∧ (State.reset.push 0x80000000).seq.j = 0 ∧
    (State.reset.push 0x80000000).seq.loaded = false := by decide +kernel

/-- Two writes with exactly two slots free and a step of the sequencer between. -/
def pairRun : State :=
  { withQueue 2 0 .idle with
    todo := [command .i2sWrite 1 0, command .i2sWrite 0xFFFE 0]
    turns := [.host, .sequencer, .host] }

/-- Where the run ends: both writes performed. -/
def pairRunEnd : State := (ran 3 pairRun).getD State.reset

theorem witness_OpenGateAdmitsStereoPair :
    pairRun.halted = false ∧ pairRun.txq.length + 2 ≤ pairRun.cfg.q ∧ pairRun.phase = .idle ∧
    .reset ∉ pairRun.turns ∧ pairRun.todo = command .i2sWrite 1 0 :: command .i2sWrite 0xFFFE 0 :: [] ∧
    isWrite (command .i2sWrite 1 0) = true ∧ isWrite (command .i2sWrite 0xFFFE 0) = true ∧
    Host.Core.run Sys2Proof.core 3 pairRun = .next pairRunEnd ∧ pairRunEnd.todo = [] :=
  ⟨by decide +kernel, by decide +kernel, by decide +kernel, by decide +kernel, by decide +kernel, by decide +kernel,
    by decide +kernel, ran_eq_some (by decide +kernel), by decide +kernel⟩

theorem witness_PinsShowRowAndSerialLines :
    State.reset.cfg.Legal ∧ ∀ p ∈ State.reset.cfg.rowPins.toList ++ State.reset.cfg.colPins.toList,
      p ∉ [State.reset.cfg.pinBclk, State.reset.cfg.pinWs, State.reset.cfg.pinData] := by decide +kernel

/-- A configuration with one wrong parameter (code 8, N = 0). -/
theorem witness_LowestConfigurationErrorReported :
    { Config.reference with n := 0 }.rateLegal = true ∧ ¬ (1 ≤ { Config.reference with n := 0 }.n) ∧
    { Config.reference with n := 0 }.errorCode = 8 := by decide +kernel

theorem witness_ResetSetsEveryField :
    { withOsc 5 6 7 8 with turns := [.reset, .host] }.turns = .reset :: [.host] := by decide

/-- The pushing step: the sequencer, as reset left it, becomes enabled. -/
theorem witness_SequencerWaitsForFirstPush :
    Config.reference.Legal ∧ (hostNext .i2sWrite).halted = false ∧ (hostNext .i2sWrite).seq = Sequencer.reset ∧
    (hostNext .i2sWrite).txq = [] ∧ (stepped (hostNext .i2sWrite)).map State.level = some 1 ∧
    (stepped (hostNext .kpRead)).map State.level = some 0 := by decide +kernel

theorem witness_ContractFreeStepGoesOn :
    wordHasContract (hostNext .i2sWriteMono).cmd = false ∧
    ∀ c ∈ (hostNext .i2sWriteMono).todo, wordHasContract c.cmd = false := by decide +kernel

/-- Host and sequencer by turns. -/
def byTurns (n : Nat) : Turn := if n % 2 = 0 then .host else .sequencer

/-- A blocking write on the port and a full queue. -/
def held : State := { withQueue 4 5 .active with cmd := 0x7200 }

theorem held_wf : held.wf := by
  refine ⟨by decide +kernel, by decide +kernel, by decide +kernel, by decide +kernel, reset_keypad_wf, by decide +kernel,
    by decide +kernel, by decide +kernel, by decide +kernel, ?_, by decide +kernel, by decide +kernel⟩
  intro w hw
  rw [List.eq_of_mem_replicate hw]
  decide

theorem witness_FairSequencerLiftsHold :
    held.wf ∧ held.halted = false ∧ held.phase ≠ .idle ∧
    (decode held.cmd = .ok .i2sWriteBlocking ∨ decode held.cmd = .ok .i2sWriteMonoBlocking) ∧
    WeaklyFair byTurns held ∧ (∀ n, ∃ m, n ≤ m ∧ byTurns m = .host) ∧ (∀ n, byTurns n ≠ .reset) := by
  refine ⟨held_wf, by decide +kernel, by decide +kernel, by decide +kernel, weaklyFair_of_recurring ?_ _, ?_, ?_⟩
  · exact fun n => ⟨2 * n + 1, by omega, by simp [byTurns, Nat.add_mod]⟩
  · exact fun n => ⟨2 * n, by omega, by simp [byTurns]⟩
  · intro n
    unfold byTurns
    split <;> simp

end Sys2Proof.Machine.Tests
end

section
/-! The invariant `State.wf` through every operation of the model: what a legal configuration gives, the ranges each
unit's own operation keeps, one rule per write of the state, and with them one step (O9). -/

namespace Sys2Proof

/-! ### A legal configuration -/

/-- A legal configuration passes every one of R451's ten checks. -/
theorem Config.Legal.checks {c : Config} (h : c.Legal) :
    c.rateLegal = true ∧ c.widthLegal = true ∧ c.i2sPinsAdjacent = true ∧ c.keypadPinsDistinct = true ∧
      c.mixerLegal = true ∧ c.seqAvailable = true ∧ c.sineLegal = true ∧ (1 ≤ c.n ∧ c.n ≤ 32) ∧
      (2 ≤ c.q ∧ c.q ≤ 255) ∧ c.restLegal = true := by
  unfold Config.Legal Config.errorCode at h
  split_ifs at h <;> simp_all
  omega

theorem Config.Legal.w_cases {c : Config} (h : c.Legal) : c.w = 16 ∨ c.w = 24 ∨ c.w = 32 := by
  obtain ⟨-, hw, -⟩ := h.checks
  simpa [Config.widthLegal] using hw

theorem Config.Legal.w_pos {c : Config} (h : c.Legal) : 0 < c.w := by
  have := h.w_cases
  omega

theorem Config.Legal.tb_eq {c : Config} (h : c.Legal) : c.tb = 64 := by
  obtain ⟨-, -, -, -, -, -, -, -, -, hrest⟩ := h.checks
  simp only [Config.restLegal, Bool.and_eq_true, decide_eq_true_eq] at hrest
  obtain ⟨⟨-, htb⟩, -⟩ := hrest
  exact htb

/-- Every envelope generator and operator has a profile (log 11), each within its legal values. -/
theorem Config.Legal.profiles {c : Config} (h : c.Legal) :
    (c.profileAdsr.length = c.nAdsr ∧ ∀ p ∈ c.profileAdsr, c.profileLegal p = true) ∧
      c.profileOp.length = c.nOp ∧ ∀ p ∈ c.profileOp, c.profileLegal p = true := by
  obtain ⟨-, -, -, -, -, -, -, -, -, hrest⟩ := h.checks
  simp only [Config.restLegal, Bool.and_eq_true, decide_eq_true_eq, List.all_eq_true] at hrest
  tauto

theorem sustain_le_of_profileLegal {c : Config} {p : Profile} (h : c.profileLegal p = true) : p.sustain ≤ c.emax := by
  simp only [Config.profileLegal, Bool.and_eq_true, decide_eq_true_eq] at h
  exact h.2

/-- An entry of a list of legal profiles has a sustain level that is an envelope value (R6, R40). -/
theorem sustain_getD_le {c : Config} {ps : List Profile} {n : Nat} (hn : n < ps.length)
    (h : ∀ p ∈ ps, c.profileLegal p = true) : (ps.getD n ⟨0, 0, 0, 0⟩).sustain ≤ c.emax := by
  rw [List.getD_eq_getElem _ _ hn]
  exact sustain_le_of_profileLegal (h _ (List.getElem_mem hn))

end Sys2Proof

namespace Sys2Proof.Machine

/-! ### General facts -/

/-- Writing one entry of a list keeps what holds of all its entries. -/
theorem forall_mem_set {α : Type} {P : α → Prop} {l : List α} {n : Nat} {x : α} (hl : ∀ y ∈ l, P y) (hx : P x) :
    ∀ y ∈ l.set n x, P y := fun y hy =>
  (List.mem_or_eq_of_mem_set hy).elim (hl y) fun e => e ▸ hx

/-- A mapped result is a value only as the image of a value. -/
theorem map_eq_ok {ε α β : Type} {f : α → β} {r : Except ε α} {y : β} (h : r.map f = .ok y) :
    ∃ x, r = .ok x ∧ f x = y := by
  cases r with
  | error e => cases h
  | ok x => exact ⟨x, rfl, by cases h; rfl⟩

/-- A guarded value, where it answers at all, is that value. -/
theorem eq_of_guard_ok {ε α : Type} {P : Prop} [Decidable P] {x y : α} {e : ε}
    (h : (if P then Except.ok x else .error e) = .ok y) : y = x := by
  split at h <;> cases h
  rfl

/-! ### The profiles of a legal configuration -/

theorem sustain_profileAdsr_le {s : State} {i : Inst} (h : s.cfg.Legal) (hi : i.toNat < s.cfg.nAdsr) :
    (s.profileAdsr i).sustain ≤ s.cfg.emax := by
  obtain ⟨⟨hlen, hall⟩, -⟩ := h.profiles
  exact sustain_getD_le (hlen ▸ hi) hall

theorem sustain_profileOp_le {s : State} {i : Inst} (h : s.cfg.Legal) (hi : i.toNat < s.cfg.nOp) :
    (s.profileOp i).sustain ≤ s.cfg.emax := by
  obtain ⟨-, hlen, hall⟩ := h.profiles
  exact sustain_getD_le (hlen ▸ hi) hall

/-! ### What the units' registers are after reset -/

theorem Filter.wf_reset (c : Config) : Filter.reset.wf c := by simp [Filter.reset]

theorem Adsr.wf_reset (c : Config) : Adsr.reset.wf c := ⟨rfl, Nat.zero_le _⟩

theorem Operator.wf_reset (c : Config) : Operator.reset.wf c := by
  have hp : (0 : Int) < 2 ^ (c.w - 1) := by positivity
  refine ⟨Adsr.wf_reset c, ?_, ?_⟩ <;> simp only [Operator.reset, Config.smin, Config.smax] <;> omega

theorem Keypad.wf_reset : Keypad.reset.wf := by
  refine ⟨fun b => ?_, List.nodup_nil, ?_⟩ <;> simp [Keypad.reset, Keypad.isPressed]

theorem Sequencer.wf_reset (c : Config) : Sequencer.reset.wf c := by
  simp [Sequencer.wf, LeftAligned, Sequencer.reset]

/-! ### Glitch filter and quadrature decoder -/

theorem gfStep_wf (c : Config) (f : Filter) (x : Bool) : (gfStep c f x).1.wf c := by
  obtain ⟨hsr, -⟩ := gfStep_spec c f x
  rw [Filter.wf, hsr]
  exact Nat.mod_lt _ (by positivity)

theorem qdStep_wf (c : Config) (d : Quadrature) (xa xb : Bool) : (qdStep c d xa xb).1.wf c :=
  ⟨gfStep_wf c d.a xa, gfStep_wf c d.b xb⟩

/-! ### Keypad scanner -/

/-- Pressing a button that is not pressed keeps R37's invariants. -/
theorem Keypad.wf.press {k : Keypad} {b : Button} (h : k.wf) (hb : k.isPressed b = false) : (k.press b).wf := by
  obtain ⟨hmem, hnodup, hlast⟩ := h
  have hnot : b ∉ k.stack := by simp [hmem, hb]
  refine ⟨fun b' => ?_, ?_, fun b' hb' => ?_⟩
  · simp [hmem, or_comm]
  · simpa [List.nodup_append, hnodup] using fun a ha (e : a = b) => hnot (e ▸ ha)
  · rw [Keypad.press_lastRel] at hb'
    split at hb'
    · cases hb'
    · next hne =>
      have hne' : b' ≠ b := fun e => hne (e ▸ hb')
      simp [hne', hlast b' hb']

/-- Releasing a button keeps R37's invariants. -/
theorem Keypad.wf.release {k : Keypad} (b : Button) (h : k.wf) : (k.release b).wf := by
  obtain ⟨hmem, hnodup, -⟩ := h
  refine ⟨fun b' => ?_, hnodup.erase b, fun b' hb' => ?_⟩
  · simp [hnodup.mem_erase_iff, hmem]
  · obtain rfl : b = b' := by simpa using hb'
    simp

/-- One column of a scan keeps R37's invariants, and what raises `changed` leaves something to report (R252, R253). -/
theorem scanColumn_wf (t : Time) (cols : BitVec 4) (k : Keypad) (col : Nat) (h : k.wf ∧ k.reportable) :
    (Keypad.scanColumn t cols k col).wf ∧ (Keypad.scanColumn t cols k col).reportable := by
  rcases scanColumn_spec t cols k col with ⟨-, hk⟩ | ⟨-, hb, hk⟩ | ⟨-, -, hk⟩ <;> rw [hk]
  · exact h
  · exact ⟨h.1.press hb, fun _ => .inl (by simp)⟩
  · exact ⟨h.1.release _, fun _ => .inr (by simp)⟩

theorem scanStep_wf (t : Time) (cols : BitVec 4) {k : Keypad} (h : k.wf ∧ k.reportable) :
    (Keypad.scanStep t cols k).wf ∧ (Keypad.scanStep t cols k).reportable :=
  have hrow : (Keypad.scanRow t cols k).wf ∧ (Keypad.scanRow t cols k).reportable :=
    List.foldlRecOn (motive := fun k => k.wf ∧ k.reportable) _ _ h fun k hk col _ => scanColumn_wf t cols k col hk
  hrow

/-! ### Envelope generator -/

theorem interpEnv_le {t t0 t1 : Time} {y0 y1 m : Nat} (ht : t.toNat ≤ t1.toNat) (h0 : y0 ≤ m) (h1 : y1 ≤ m) :
    interpEnv t t0 t1 y0 y1 ≤ m := by
  obtain ⟨-, hle⟩ := interpolate_between (Nat.sub_le_sub_right ht t0.toNat) (y0 : Int) (y1 : Int)
  rw [interpEnv, Int.toNat_le]
  omega

/-- A tick's transition keeps the times of the state in order (R273). -/
theorem EnvState.wf_advance {c : Config} {st : EnvState} (t : Time) (h : st.wf c = true) :
    (st.advance t).wf c = true := by
  rcases advance_spec st t with e | e | ⟨s, ae, de, rfl, e, -⟩ | ⟨s, ae, de, rfl, e, -⟩ | ⟨s, de, rfl, e, -⟩ |
    ⟨s, v, de, rfl, e, -⟩ <;> rw [e]
  case inl | inr.inl => rfl
  case inr.inr.inr.inl =>
    simp only [EnvState.wf, decide_eq_true_eq] at h ⊢
    exact h.2
  all_goals exact h

/-- The value a tick computes is an envelope value: the state it evaluates has not passed its end, so the value lies
between the two it interpolates (R271, R273). -/
theorem value_advance_le {c : Config} {p : Profile} {st : EnvState} {t : Time} {v : Nat} (hp : p.sustain ≤ c.emax)
    (h : st.wf c = true) (hv : EnvState.value c p (st.advance t) t = .ok v) : v ≤ c.emax := by
  rcases advance_spec st t with e | e | ⟨s, ae, de, rfl, e, hae, -⟩ | ⟨s, ae, de, rfl, e, -, hde⟩ |
    ⟨s, de, rfl, e, hde⟩ | ⟨s, v0, de, rfl, e, hde⟩ <;> rw [e] at hv
  · cases hv
    exact Nat.zero_le _
  · cases hv
    exact hp
  · rw [eq_of_guard_ok hv]
    exact interpEnv_le hae.le (Nat.zero_le _) le_rfl
  · rw [eq_of_guard_ok hv]
    exact interpEnv_le hde.le le_rfl hp
  · rw [eq_of_guard_ok hv]
    exact interpEnv_le hde.le le_rfl hp
  · simp only [EnvState.wf, decide_eq_true_eq] at h
    rw [eq_of_guard_ok hv]
    exact interpEnv_le hde.le h.2 (Nat.zero_le _)

theorem Adsr.wf.tick {c : Config} {p : Profile} {e e' : Adsr} {t : Time} (he : e.wf c) (hp : p.sustain ≤ c.emax)
    (h : e.tick c p t = .ok e') : e'.wf c := by
  obtain ⟨hst, hv⟩ := adsrTick_ok h
  rw [hst] at hv
  exact ⟨hst ▸ EnvState.wf_advance t he.1, value_advance_le hp he.1 hv⟩

/-- A press that meets the host contract orders its three times: none wraps (R272). -/
theorem Adsr.wf.press {c : Config} {p : Profile} {e e' : Adsr} {ts : Time} (he : e.wf c) (htb : c.tb = 64)
    (h : e.press c p ts = .ok e') : e'.wf c := by
  obtain ⟨d, hd, rfl⟩ := map_eq_ok h
  obtain ⟨hfit, rfl⟩ := deadline_ok hd
  rw [htb] at hfit
  refine ⟨?_, he.2⟩
  simp only [EnvState.wf, decide_eq_true_eq, BitVec.toNat_ofNat]
  omega

/-- Entering Release captures the envelope and orders its two times (R272). -/
theorem Adsr.wf.enterRelease {c : Config} {p : Profile} {e e' : Adsr} {ts : Time} (he : e.wf c) (htb : c.tb = 64)
    (h : ((deadline c ts p.release).map fun stop => { e with st := .release ts e.env stop }) = .ok e') : e'.wf c := by
  obtain ⟨d, hd, rfl⟩ := map_eq_ok h
  obtain ⟨hfit, rfl⟩ := deadline_ok hd
  rw [htb] at hfit
  refine ⟨?_, he.2⟩
  simp only [EnvState.wf, decide_eq_true_eq, BitVec.toNat_ofNat]
  have := he.2
  omega

theorem Adsr.wf.release {c : Config} {p : Profile} {e e' : Adsr} {ts : Time} (he : e.wf c) (htb : c.tb = 64)
    (h : e.release c p ts = .ok e') : e'.wf c := by
  unfold Adsr.release at h
  split at h
  case h_1 | h_2 =>
    cases h
    exact he
  all_goals exact he.enterRelease htb h

theorem Adsr.wf.feed {c : Config} {p : Profile} {e e' : Adsr} {ts : Time} {ev : Event} (he : e.wf c) (htb : c.tb = 64)
    (h : e.feed c p ts ev = .ok e') : e'.wf c := by
  unfold Adsr.feed at h
  split at h
  · split at h
    · exact he.press htb h
    · exact he.release htb h
  · cases h
    exact he

/-! ### FM operator -/

theorem Operator.wf.tick {c : Config} {p : Profile} {ratio : Nat} {o o' : Operator} {t : Time} (ho : o.wf c)
    (hp : p.sustain ≤ c.emax) (h : o.tick c p ratio t = .ok o') : o'.wf c := by
  obtain ⟨e, he, rfl⟩ := map_eq_ok h
  exact ⟨ho.1.tick hp he, ho.2⟩

theorem Operator.wf.feed {c : Config} {p : Profile} {o o' : Operator} {ts : Time} {ev : Event} (ho : o.wf c)
    (htb : c.tb = 64) (h : o.feed c p ts ev = .ok o') : o'.wf c := by
  unfold Operator.feed at h
  split at h
  · obtain ⟨e, he, rfl⟩ := map_eq_ok h
    exact ⟨ho.1.feed htb he, ho.2⟩
  · cases h
    exact ho

/-! ### Transmit queue and sequencer -/

/-- The queue word of any sample has only its top W bits set (R73). -/
theorem txWord_leftAligned (c : Config) (x : Int) : LeftAligned c (txWord c x) := by
  have hdvd : 2 ^ (32 - c.w) ∣ 2 ^ 32 := pow_dvd_pow 2 (Nat.sub_le 32 c.w)
  rw [LeftAligned, txWord, BitVec.toNat_ofNat, Nat.mod_mod_of_dvd _ hdvd, Nat.mul_mod_left]

/-- The high half ends a bit-time: the index moves on within the word, or the word is over (R331). -/
theorem highHalf_seq_wf {s : State} (h : s.seq.wf s.cfg) (hw : s.cfg.w ≤ 32) (hhalf : s.seq.half = true) :
    s.highHalf.seq.wf s.cfg := by
  obtain ⟨hj, hloaded, hosr⟩ := h
  have hl : s.seq.loaded = true := by simpa [hhalf] using hloaded
  unfold State.highHalf
  split
  · exact ⟨Nat.zero_le _, by simp, hosr⟩
  · next hlast =>
    have hval : (s.seq.j + 1).toNat = s.seq.j.toNat + 1 := by
      rw [BitVec.toNat_add]
      exact Nat.mod_eq_of_lt (show s.seq.j.toNat + 1 < 2 ^ 5 by omega)
    have hne : s.seq.j + 1#5 ≠ 0#5 := fun e => by
      have h0 : (s.seq.j + 1).toNat = 0 := congrArg BitVec.toNat e
      omega
    exact ⟨show (s.seq.j + 1).toNat ≤ _ by omega, by simp [hl, hne], hosr⟩

/-- When an enabled sequencer is about to drive a bit its word is loaded, or is the oldest of the queue and is loaded
now: a sequencer with neither is stalled (R53, R330, R331). -/
theorem loadWord_cases {s : State} (h : s.seq.wf s.cfg) (hen : s.seqEnabled = true) (hhalf : s.seq.half = false) :
    (s.seq.loaded = true ∧ s.loadWord = s) ∨
      ∃ w rest, s.txq = w :: rest ∧
        s.loadWord = { s with txq := rest, seq := { s.seq with osr := w, loaded := true } } := by
  obtain ⟨-, hloaded, -⟩ := h
  unfold State.loadWord
  cases hl : s.seq.loaded with
  | true => exact .inl ⟨rfl, by simp⟩
  | false =>
    have hj : s.seq.j = 0 := (hloaded.mp hl).1
    rcases s.popToOsr_spec with ⟨hempty, -⟩ | ⟨w, rest, hq, hpop⟩
    · simp [State.seqEnabled, State.stalled, State.level, hhalf, hj, hl, hempty] at hen
    · exact .inr ⟨w, rest, hq, by rw [if_pos ⟨hj, rfl⟩, hpop]⟩

/-! ### What each write of the state keeps -/

/-- A block that is not HALTED has a legal configuration (R54, R451). -/
theorem State.wf.legal {s : State} (h : s.wf) (hrun : s.halted = false) : s.cfg.Legal := by
  obtain ⟨⟨hcode, hhalted⟩, -⟩ := h
  simpa [hrun, hcode, Config.Legal] using hhalted

/-- The whole block after reset is well-formed under every configuration (R450). -/
theorem State.wf_resetWith (c : Config) : (State.resetWith c).wf := by
  have hall {α : Type} {P : α → Prop} {n : Nat} {x : α} (hx : P x) : ∀ y ∈ List.replicate n x, P y :=
    List.forall_mem_replicate.mpr (.inr hx)
  refine ⟨⟨rfl, by simp [State.resetWith]⟩, by simp [State.resetWith, State.Sized], hall (Filter.wf_reset c),
    hall ⟨Filter.wf_reset c, Filter.wf_reset c⟩, Keypad.wf_reset, nofun, hall (Adsr.wf_reset c),
    hall (Operator.wf_reset c), Nat.zero_le _, List.forall_mem_nil _, Sequencer.wf_reset c, nofun⟩

section writes
variable {s : State}

theorem State.wf.adsrAt (h : s.wf) (i : Inst) : (s.adsrAt i).wf s.cfg := by
  obtain ⟨-, -, -, -, -, -, hadsr, -⟩ := h
  rcases s.adsrAt_mem i with hmem | hreset
  · exact hadsr _ hmem
  · exact hreset ▸ Adsr.wf_reset s.cfg

theorem State.wf.opAt (h : s.wf) (i : Inst) : (s.opAt i).wf s.cfg := by
  obtain ⟨-, -, -, -, -, -, -, hop, -⟩ := h
  rcases s.opAt_mem i with hmem | hreset
  · exact hop _ hmem
  · exact hreset ▸ Operator.wf_reset s.cfg

theorem State.wf.keypad (h : s.wf) : s.kp.wf ∧ s.kp.reportable := by
  obtain ⟨-, -, -, -, hkp, hreport, -⟩ := h
  exact ⟨hkp, hreport⟩

theorem State.wf.respond (h : s.wf) (r0 r1 : Bus) : (s.respond r0 r1).wf := by
  obtain ⟨hcfg, hsized, hgf, hqd, hkp, hreport, hadsr, hop, hlen, htxq, hseq, -⟩ := h
  exact ⟨hcfg, hsized, hgf, hqd, hkp, hreport, hadsr, hop, hlen, htxq, hseq, nofun⟩

theorem State.wf.done (h : s.wf) : s.done.wf := h.respond 0 0

theorem State.wf.raiseIllegal (h : s.wf) : s.raiseIllegal.wf := h.done

theorem State.wf.rejectWord (h : s.wf) : s.rejectWord.wf := by
  unfold State.rejectWord
  split
  · exact h.done
  · exact h.raiseIllegal

theorem State.wf.issue (h : s.wf) (c : Command) (rest : List Command) : (s.issue c rest).wf := by
  obtain ⟨hcfg, hsized, hgf, hqd, hkp, hreport, hadsr, hop, hlen, htxq, hseq, -⟩ := h
  exact ⟨hcfg, hsized, hgf, hqd, hkp, hreport, hadsr, hop, hlen, htxq, hseq, nofun⟩

theorem State.wf.setOsc (h : s.wf) (i : Inst) (o : Osc) : (s.setOsc i o).wf := by
  obtain ⟨hcfg, hsized, hrest⟩ := h
  exact ⟨hcfg, by simpa [State.Sized] using hsized, hrest⟩

theorem State.wf.setGf (h : s.wf) (i : Inst) {f : Filter} (hf : f.wf s.cfg) : (s.setGf i f).wf := by
  obtain ⟨hcfg, hsized, hgf, hrest⟩ := h
  exact ⟨hcfg, by simpa [State.Sized] using hsized, forall_mem_set hgf hf, hrest⟩

theorem State.wf.setQd (h : s.wf) (i : Inst) {d : Quadrature} (hd : d.wf s.cfg) : (s.setQd i d).wf := by
  obtain ⟨hcfg, hsized, hgf, hqd, hrest⟩ := h
  exact ⟨hcfg, by simpa [State.Sized] using hsized, hgf, forall_mem_set hqd hd, hrest⟩

theorem State.wf.setKp (h : s.wf) {k : Keypad} (hk : k.wf ∧ k.reportable) : (s.setKp k).wf := by
  obtain ⟨hcfg, hsized, hgf, hqd, -, -, hrest⟩ := h
  exact ⟨hcfg, hsized, hgf, hqd, hk.1, hk.2, hrest⟩

theorem State.wf.setAdsr (h : s.wf) (i : Inst) {e : Adsr} (he : e.wf s.cfg) : (s.setAdsr i e).wf := by
  obtain ⟨hcfg, hsized, hgf, hqd, hkp, hreport, hadsr, hrest⟩ := h
  exact ⟨hcfg, by simpa [State.Sized] using hsized, hgf, hqd, hkp, hreport, forall_mem_set hadsr he, hrest⟩

theorem State.wf.setOp (h : s.wf) (i : Inst) {o : Operator} (ho : o.wf s.cfg) : (s.setOp i o).wf := by
  obtain ⟨hcfg, hsized, hgf, hqd, hkp, hreport, hadsr, hop, hrest⟩ := h
  exact ⟨hcfg, by simpa [State.Sized] using hsized, hgf, hqd, hkp, hreport, hadsr, forall_mem_set hop ho, hrest⟩

/-- Replacing the queue and the sequencer's fields keeps the rest of the invariant. -/
theorem State.wf.setQueueSeq (h : s.wf) {q : List Word32} {u : Sequencer} (hlen : q.length ≤ s.cfg.q)
    (hq : ∀ w ∈ q, LeftAligned s.cfg w) (hu : u.wf s.cfg) : { s with txq := q, seq := u }.wf := by
  obtain ⟨hcfg, hsized, hgf, hqd, hkp, hreport, hadsr, hop, -, -, -, hphase⟩ := h
  exact ⟨hcfg, hsized, hgf, hqd, hkp, hreport, hadsr, hop, hlen, hq, hu, hphase⟩

theorem State.wf.queueSeq (h : s.wf) :
    s.txq.length ≤ s.cfg.q ∧ (∀ w ∈ s.txq, LeftAligned s.cfg w) ∧ s.seq.wf s.cfg := by
  obtain ⟨-, -, -, -, -, -, -, -, hlen, hq, hseq, -⟩ := h
  exact ⟨hlen, hq, hseq⟩

/-- A push of a left-aligned word appends where there is room and only sets TXOVER where there is none (R321). -/
theorem State.wf.push (h : s.wf) {w : Word32} (hw : LeftAligned s.cfg w) : (s.push w).wf := by
  obtain ⟨-, hq, hseq⟩ := h.queueSeq
  cases hroom : s.hasRoom with
  | true =>
    rw [State.push_of_room hroom]
    have hlt : s.txq.length < s.cfg.q := by simpa [State.hasRoom] using hroom
    exact h.setQueueSeq (by simpa using hlt)
      (List.forall_mem_append.mpr ⟨hq, List.forall_mem_singleton.mpr hw⟩) hseq
  | false =>
    rw [State.push_of_full hroom]
    exact h

theorem State.wf.pushOperand (h : s.wf) : (s.push s.operandWord).wf := h.push (txWord_leftAligned _ _)

/-- A mono write between its two pushes is on the port (R76). -/
theorem State.wf.afterMonoPush (h : s.wf) (hmono : s.monoOnPort = true) : s.afterMonoPush.wf := by
  unfold State.afterMonoPush
  split
  · exact h.done
  · obtain ⟨hcfg, hsized, hgf, hqd, hkp, hreport, hadsr, hop, hlen, htxq, hseq, -⟩ := h
    exact ⟨hcfg, hsized, hgf, hqd, hkp, hreport, hadsr, hop, hlen, htxq, hseq, fun _ => hmono⟩

theorem State.wf.monoPush (h : s.wf) (hmono : s.monoOnPort = true) : (s.push s.operandWord).afterMonoPush.wf :=
  h.pushOperand.afterMonoPush (by simpa [State.monoOnPort] using hmono)

/-- The low half drives a bit of a loaded word and ends with `half` raised (R331). -/
theorem State.wf.lowHalf_loadWord (h : s.wf) (hen : s.seqEnabled = true) (hhalf : s.seq.half = false) :
    s.loadWord.lowHalf.wf := by
  obtain ⟨hlen, hq, hseq⟩ := h.queueSeq
  rcases loadWord_cases hseq hen hhalf with ⟨hloaded, e⟩ | ⟨w, rest, htxq, e⟩ <;>
    rw [e] <;> obtain ⟨hj, -, hosr⟩ := hseq
  · exact h.setQueueSeq hlen hq ⟨hj, by simp [hloaded], hosr⟩
  · rw [htxq] at hlen hq
    obtain ⟨hw, hrest⟩ := List.forall_mem_cons.mp hq
    exact h.setQueueSeq (Nat.le_of_succ_le hlen) hrest ⟨hj, by simp, hw⟩

theorem State.wf.highHalf (h : s.wf) (hw : s.cfg.w ≤ 32) (hhalf : s.seq.half = true) : s.highHalf.wf := by
  obtain ⟨hlen, hq, hseq⟩ := h.queueSeq
  have e : s.highHalf = { s with seq := s.highHalf.seq } := by
    unfold State.highHalf
    split <;> rfl
  rw [e]
  exact h.setQueueSeq hlen hq (highHalf_seq_wf hseq hw hhalf)

theorem State.wf.sequencerTurn (h : s.wf) : s.sequencerTurn.wf := by
  rcases sequencerTurn_cases s with ⟨-, e⟩ | ⟨hen, hhalf, e⟩ | ⟨hen, hhalf, e⟩ <;> rw [e]
  · exact h
  · exact h.lowHalf_loadWord hen hhalf
  · have hrun : s.halted = false := by
      simp only [State.seqEnabled, Bool.and_eq_true, Bool.not_eq_true'] at hen
      exact hen.1
    have := (h.legal hrun).w_cases
    exact h.highHalf (by omega) hhalf

end writes

/-! ### What a command keeps -/

/-- Every next state the outcome gives is well-formed. -/
def LeadsToWf (o : Out) : Prop := ∀ t, o = .next t → t.wf

theorem leadsToWf_next {s : State} : LeadsToWf (.next s) ↔ s.wf :=
  ⟨fun h => h s rfl, fun h t e => by cases e; exact h⟩

section commands
variable {s : State}

/-- A guarded command keeps the invariant if its own rule does when the block runs, its configuration then being
legal. -/
theorem unlessHalted_leadsToWf (h : s.wf) {rule : Out} (hrule : s.cfg.Legal → LeadsToWf rule) :
    LeadsToWf (unlessHalted s rule) := fun t ht => by
  rcases unlessHalted_next ht with ⟨-, rfl⟩ | ⟨hrun, ht⟩
  · exact h.done
  · exact hrule (h.legal hrun) t ht

/-- The same for a command on one copy of a unit, whose own rule is taken only when the copy exists (R94, R405). -/
theorem onInstance_leadsToWf (h : s.wf) {count : Nat} {i : Inst} {rule : Out}
    (hrule : s.cfg.Legal → i.toNat < count → LeadsToWf rule) : LeadsToWf (onInstance count i s rule) := fun t ht => by
  rcases onInstance_next ht with ⟨-, rfl⟩ | ⟨-, -, rfl⟩ | ⟨hrun, hi, ht⟩
  · exact h.done
  · exact h.raiseIllegal
  · exact hrule (h.legal hrun) hi t ht

/-- A command that only answers keeps the invariant. -/
theorem onInstance_respond_leadsToWf (h : s.wf) {count : Nat} {i : Inst} {r0 r1 : Bus} :
    LeadsToWf (onInstance count i s (.next (s.respond r0 r1))) :=
  onInstance_leadsToWf h fun _ _ => leadsToWf_next.mpr (h.respond r0 r1)

theorem unlessHalted_respond_leadsToWf (h : s.wf) {r0 r1 : Bus} :
    LeadsToWf (unlessHalted s (.next (s.respond r0 r1))) :=
  unlessHalted_leadsToWf h fun _ => leadsToWf_next.mpr (h.respond r0 r1)

/-- A command that writes an oscillator keeps the invariant whatever it writes: every pattern is in range (R33). -/
theorem onInstance_setOsc_leadsToWf (h : s.wf) {count : Nat} {i : Inst} {o : Osc} :
    LeadsToWf (onInstance count i s (.next (s.setOsc i o).done)) :=
  onInstance_leadsToWf h fun _ _ => leadsToWf_next.mpr (h.setOsc i o).done

/-- A rule under a host contract keeps the invariant if the write of every result it can compute does (R402). -/
theorem completeOr_map_leadsToWf {α : Type} {r : Except Fault α} {f : α → State} (hf : ∀ x, r = .ok x → (f x).wf) :
    LeadsToWf (completeOr (r.map f)) := fun t ht => by
  obtain ⟨u, hu, rfl⟩ := completeOr_next ht
  obtain ⟨x, hx, rfl⟩ := map_eq_ok hu
  exact (hf x hx).done

theorem execAdsrFeed_leadsToWf (h : s.wf) (i : Inst) : LeadsToWf (execAdsrFeed i s) :=
  onInstance_leadsToWf h fun hlegal _ => completeOr_map_leadsToWf fun _ he =>
    h.setAdsr i ((h.adsrAt i).feed hlegal.tb_eq he)

theorem execAdsrTick_leadsToWf (h : s.wf) (i : Inst) : LeadsToWf (execAdsrTick i s) :=
  onInstance_leadsToWf h fun hlegal hi => completeOr_map_leadsToWf fun _ he =>
    h.setAdsr i ((h.adsrAt i).tick (sustain_profileAdsr_le hlegal hi) he)

theorem execOpTick_leadsToWf (h : s.wf) (i : Inst) : LeadsToWf (execOpTick i s) :=
  onInstance_leadsToWf h fun hlegal hi => completeOr_map_leadsToWf fun _ ho =>
    h.setOp i ((h.opAt i).tick (sustain_profileOp_le hlegal hi) ho)

theorem execOpFeedEvent_leadsToWf (h : s.wf) (i : Inst) : LeadsToWf (execOpFeedEvent i s) :=
  onInstance_leadsToWf h fun hlegal _ => completeOr_map_leadsToWf fun _ ho =>
    h.setOp i ((h.opAt i).feed hlegal.tb_eq ho)

/-- OP.SET_INPUT loads a W-bit operand, which is a sample (R292). -/
theorem execOpSetInput_leadsToWf (h : s.wf) (i : Inst) : LeadsToWf (execOpSetInput i s) :=
  onInstance_leadsToWf h fun hlegal _ => leadsToWf_next.mpr
    (h.setOp i (o := { s.opAt i with input := sampleOperand s.cfg s.a })
      ⟨(h.opAt i).1, (sampleOperand_spec hlegal.w_pos s.a).1⟩).done

theorem execGfSample_leadsToWf (h : s.wf) (i : Inst) : LeadsToWf (execGfSample i s) :=
  onInstance_leadsToWf h fun _ _ => leadsToWf_next.mpr ((h.setGf i (gfStep_wf _ _ _)).respond _ _)

theorem execQdSample_leadsToWf (h : s.wf) (i : Inst) : LeadsToWf (execQdSample i s) :=
  onInstance_leadsToWf h fun _ _ => leadsToWf_next.mpr ((h.setQd i (qdStep_wf _ _ _ _)).respond _ _)

theorem execKpScanStep_leadsToWf (h : s.wf) : LeadsToWf (execKpScanStep s) :=
  unlessHalted_leadsToWf h fun _ => leadsToWf_next.mpr (h.setKp (scanStep_wf _ _ h.keypad)).done

/-- KP.GET_EVENT clears `changed` in both its cases, so nothing is left to be reported (R253). -/
theorem execKpGetEvent_leadsToWf (h : s.wf) : LeadsToWf (execKpGetEvent s) :=
  unlessHalted_leadsToWf h fun _ => leadsToWf_next.mpr <| by
    have hk : (s.setKp { s.kp with changed := false }).wf := h.setKp ⟨h.keypad.1, nofun⟩
    split
    · exact hk.respond _ _
    · exact hk.done

theorem execI2sWrite_leadsToWf (h : s.wf) : LeadsToWf (execI2sWrite s) :=
  unlessHalted_leadsToWf h fun _ => leadsToWf_next.mpr h.pushOperand.done

/-- I2S.WRITE_BLOCKING pushes or leaves the state as it is (R325). -/
theorem execI2sWriteBlocking_leadsToWf (h : s.wf) : LeadsToWf (execI2sWriteBlocking s) :=
  unlessHalted_leadsToWf h fun _ => leadsToWf_next.mpr <| by
    split
    · exact h.pushOperand.done
    · exact h

theorem execI2sWriteMono_leadsToWf (h : s.wf) (hdec : decode s.cmd = .ok .i2sWriteMono) :
    LeadsToWf (execI2sWriteMono s) :=
  unlessHalted_leadsToWf h fun _ => leadsToWf_next.mpr (h.monoPush (by simp [State.monoOnPort, hdec]))

theorem execI2sWriteMonoBlocking_leadsToWf (h : s.wf) (hdec : decode s.cmd = .ok .i2sWriteMonoBlocking) :
    LeadsToWf (execI2sWriteMonoBlocking s) :=
  unlessHalted_leadsToWf h fun _ => leadsToWf_next.mpr <| by
    split
    · exact h.monoPush (by simp [State.monoOnPort, hdec])
    · exact h

/-- Every command on the port keeps the invariant. -/
theorem exec_leadsToWf (h : s.wf) {i : Instr} (hdec : decode s.cmd = .ok i) : LeadsToWf (exec i s) := by
  cases i with
  | oscTick i | oscSetFreq i | oscSetDelta i | oscTickMod i => exact onInstance_setOsc_leadsToWf h
  | oscSaw i | oscSquare i | oscSine i | oscRead i | gfRead i | qdRead i | adsrApply i | adsrRead i | opSaw i
  | opSquare i | opSine i | opRead i => exact onInstance_respond_leadsToWf h
  | kpRead | mixMix | i2sIsWritable | i2sStatus => exact unlessHalted_respond_leadsToWf h
  | sysStatus => exact leadsToWf_next.mpr (h.respond _ _)
  | gfSample i => exact execGfSample_leadsToWf h i
  | qdSample i => exact execQdSample_leadsToWf h i
  | kpScanStep => exact execKpScanStep_leadsToWf h
  | kpGetEvent => exact execKpGetEvent_leadsToWf h
  | adsrFeed i => exact execAdsrFeed_leadsToWf h i
  | adsrTick i => exact execAdsrTick_leadsToWf h i
  | opTick i => exact execOpTick_leadsToWf h i
  | opFeedEvent i => exact execOpFeedEvent_leadsToWf h i
  | opSetInput i => exact execOpSetInput_leadsToWf h i
  | i2sWrite => exact execI2sWrite_leadsToWf h
  | i2sWriteBlocking => exact execI2sWriteBlocking_leadsToWf h
  | i2sWriteMono => exact execI2sWriteMono_leadsToWf h hdec
  | i2sWriteMonoBlocking => exact execI2sWriteMonoBlocking_leadsToWf h hdec

/-! ### What a turn keeps -/

theorem perform_leadsToWf (h : s.wf) : LeadsToWf s.perform := by
  unfold State.perform
  split
  · next i hdec => exact exec_leadsToWf h hdec
  · exact leadsToWf_next.mpr h.rejectWord

theorem hostTurn_leadsToWf (h : s.wf) : LeadsToWf s.hostTurn := by
  unfold State.hostTurn
  split
  · split
    · exact leadsToWf_next.mpr h
    · exact perform_leadsToWf (h.issue _ _)
  · exact perform_leadsToWf h
  · exact perform_leadsToWf h

/-- A step keeps the invariant whoever's turn it is; the list of turns is no part of it. -/
theorem step_leadsToWf (h : s.wf) : LeadsToWf (step s) := by
  have hrest (rest : List Turn) : { s with turns := rest }.wf := h
  unfold step
  split
  · exact leadsToWf_next.mpr h
  · exact hostTurn_leadsToWf (hrest _)
  · exact leadsToWf_next.mpr (hrest _).sequencerTurn
  · exact leadsToWf_next.mpr (State.wf_resetWith s.cfg)

end commands

/-- Settles O9: one case per turn, and for the host's one per command, each from the rule of the write it makes. -/
theorem stepKeepsWellFormed : Obligations.StepKeepsWellFormed :=
  fun _ t h ht => step_leadsToWf h t ht

end Sys2Proof.Machine
end

section
/-! The frame of each kind of turn, said once: what a host command, a host turn, a sequencer turn and a step may do to
the parts of the state that outlast them. Noninterference (O12, O13), the sticky bits (O14) and R37's keypad invariants
(O11) are read off it. -/

namespace Sys2Proof.Machine

/-! ### What a host command may do -/

/-- What a turn of the host may do to the state the port does not hold: the sequencer, the configuration and the order
of turns stay, the sticky bits are not cleared, the queue gets at most one word that fits, and the keypad scanner is
left, acknowledged (R253) or makes one scan step (R252). -/
structure HostFrame (s t : State) : Prop where
  seq : t.seq = s.seq
  cfg : t.cfg = s.cfg
  cfgErr : t.cfgErr = s.cfgErr
  halted : t.halted = s.halted
  turns : t.turns = s.turns
  illegal : s.illegal = true → t.illegal = true
  txover : s.txover = true → t.txover = true
  queue : t.txq = s.txq ∨ ∃ w, t.txq = s.txq ++ [w] ∧ s.txq.length < s.cfg.q
  keypad : t.kp = s.kp ∨ t.kp = { s.kp with changed := false } ∨ ∃ time cols, t.kp = s.kp.scanStep time cols

/-- What a command may do: it also leaves its own tuple on the port and the host's further commands (R90). -/
structure CommandFrame (s t : State) : Prop extends HostFrame s t where
  cmd : t.cmd = s.cmd
  a : t.a = s.a
  b : t.b = s.b
  v : t.v = s.v
  todo : t.todo = s.todo

section writes
variable {s u : State}

theorem CommandFrame.refl (s : State) : CommandFrame s s :=
  ⟨⟨rfl, rfl, rfl, rfl, rfl, id, id, .inl rfl, .inl rfl⟩, rfl, rfl, rfl, rfl, rfl⟩

theorem CommandFrame.respond (h : CommandFrame s u) (r0 r1 : Bus) : CommandFrame s (u.respond r0 r1) := { h with }

theorem CommandFrame.done (h : CommandFrame s u) : CommandFrame s u.done := h.respond 0 0

theorem CommandFrame.raiseIllegal (s : State) : CommandFrame s s.raiseIllegal :=
  { CommandFrame.refl s with illegal := fun _ => rfl }

theorem CommandFrame.rejectWord (s : State) : CommandFrame s s.rejectWord := by
  unfold State.rejectWord
  split
  · exact (CommandFrame.refl s).done
  · exact CommandFrame.raiseIllegal s

theorem CommandFrame.setOsc (s : State) (i : Inst) (x : Osc) : CommandFrame s (s.setOsc i x) :=
  { CommandFrame.refl s with }

theorem CommandFrame.setGf (s : State) (i : Inst) (x : Filter) : CommandFrame s (s.setGf i x) :=
  { CommandFrame.refl s with }

theorem CommandFrame.setQd (s : State) (i : Inst) (x : Quadrature) : CommandFrame s (s.setQd i x) :=
  { CommandFrame.refl s with }

theorem CommandFrame.setAdsr (s : State) (i : Inst) (x : Adsr) : CommandFrame s (s.setAdsr i x) :=
  { CommandFrame.refl s with }

theorem CommandFrame.setOp (s : State) (i : Inst) (x : Operator) : CommandFrame s (s.setOp i x) :=
  { CommandFrame.refl s with }

theorem CommandFrame.scanKeypad (s : State) (time : Time) (cols : BitVec 4) :
    CommandFrame s (s.setKp (s.kp.scanStep time cols)) :=
  { CommandFrame.refl s with keypad := .inr (.inr ⟨time, cols, rfl⟩) }

theorem CommandFrame.acknowledgeKeypad (s : State) : CommandFrame s (s.setKp { s.kp with changed := false }) :=
  { CommandFrame.refl s with keypad := .inr (.inl rfl) }

/-- A push appends where there is room and only sets TXOVER where there is none (R321). -/
theorem CommandFrame.push (s : State) (w : Word32) : CommandFrame s (s.push w) := by
  cases hroom : s.hasRoom with
  | true =>
    rw [State.push_of_room hroom]
    have hlt : s.txq.length < s.cfg.q := by simpa [State.hasRoom] using hroom
    exact { CommandFrame.refl s with queue := .inr ⟨w, rfl, hlt⟩ }
  | false =>
    rw [State.push_of_full hroom]
    exact { CommandFrame.refl s with txover := fun _ => rfl }

theorem CommandFrame.afterMonoPush (h : CommandFrame s u) : CommandFrame s u.afterMonoPush := by
  unfold State.afterMonoPush
  split
  · exact h.done
  · exact { h with }

end writes

/-! ### Every command keeps the frame -/

/-- Every next state the outcome gives is within the frame of a command on `s`. -/
def Framed (s : State) (o : Out) : Prop := ∀ t, o = .next t → CommandFrame s t

section commands
variable {s : State}

theorem framed_next {t : State} : Framed s (.next t) ↔ CommandFrame s t :=
  ⟨fun h => h t rfl, fun h u e => by cases e; exact h⟩

theorem unlessHalted_framed {rule : Out} (hrule : Framed s rule) : Framed s (unlessHalted s rule) := fun t ht => by
  rcases unlessHalted_next ht with ⟨-, rfl⟩ | ⟨-, ht⟩
  · exact (CommandFrame.refl s).done
  · exact hrule t ht

theorem onInstance_framed {count : Nat} {i : Inst} {rule : Out} (hrule : Framed s rule) :
    Framed s (onInstance count i s rule) := fun t ht => by
  rcases onInstance_next ht with ⟨-, rfl⟩ | ⟨-, -, rfl⟩ | ⟨-, -, ht⟩
  · exact (CommandFrame.refl s).done
  · exact CommandFrame.raiseIllegal s
  · exact hrule t ht

/-- A rule under a host contract keeps the frame if the write of any result does (R402). -/
theorem completeOr_map_framed {α : Type} {r : Except Fault α} {f : α → State} (hf : ∀ x, CommandFrame s (f x)) :
    Framed s (completeOr (r.map f)) := fun t ht => by
  obtain ⟨u, hu, rfl⟩ := completeOr_next ht
  obtain ⟨x, -, rfl⟩ := map_eq_ok hu
  exact (hf x).done

theorem framed_respond {r0 r1 : Bus} : Framed s (.next (s.respond r0 r1)) :=
  framed_next.mpr ((CommandFrame.refl s).respond r0 r1)

theorem execKpGetEvent_framed : Framed s (execKpGetEvent s) :=
  unlessHalted_framed <| framed_next.mpr <| by
    split
    · exact (CommandFrame.acknowledgeKeypad s).respond _ _
    · exact (CommandFrame.acknowledgeKeypad s).done

/-- A blocking write pushes or leaves the state as it is (R325). -/
theorem execI2sWriteBlocking_framed : Framed s (execI2sWriteBlocking s) :=
  unlessHalted_framed <| framed_next.mpr <| by
    split
    · exact (CommandFrame.push s _).done
    · exact CommandFrame.refl s

theorem execI2sWriteMonoBlocking_framed : Framed s (execI2sWriteMonoBlocking s) :=
  unlessHalted_framed <| framed_next.mpr <| by
    split
    · exact (CommandFrame.push s _).afterMonoPush
    · exact CommandFrame.refl s

/-- Every command keeps the frame, each by the frame of the write it makes. -/
theorem exec_framed (i : Instr) (s : State) : Framed s (exec i s) := by
  cases i with
  | oscTick i | oscSetFreq i | oscSetDelta i | oscTickMod i =>
    exact onInstance_framed (framed_next.mpr (CommandFrame.setOsc s i _).done)
  | oscSaw i | oscSquare i | oscSine i | oscRead i | gfRead i | qdRead i | adsrApply i | adsrRead i | opSaw i
  | opSquare i | opSine i | opRead i => exact onInstance_framed framed_respond
  | kpRead | mixMix | i2sIsWritable | i2sStatus => exact unlessHalted_framed framed_respond
  | sysStatus => exact framed_respond
  | gfSample i => exact onInstance_framed (framed_next.mpr ((CommandFrame.setGf s i _).respond _ _))
  | qdSample i => exact onInstance_framed (framed_next.mpr ((CommandFrame.setQd s i _).respond _ _))
  | kpScanStep => exact unlessHalted_framed (framed_next.mpr (CommandFrame.scanKeypad s _ _).done)
  | kpGetEvent => exact execKpGetEvent_framed
  | adsrFeed i | adsrTick i => exact onInstance_framed (completeOr_map_framed (CommandFrame.setAdsr s i))
  | opTick i | opFeedEvent i => exact onInstance_framed (completeOr_map_framed (CommandFrame.setOp s i))
  | opSetInput i => exact onInstance_framed (framed_next.mpr (CommandFrame.setOp s i _).done)
  | i2sWrite => exact unlessHalted_framed (framed_next.mpr (CommandFrame.push s _).done)
  | i2sWriteBlocking => exact execI2sWriteBlocking_framed
  | i2sWriteMono => exact unlessHalted_framed (framed_next.mpr (CommandFrame.push s _).afterMonoPush)
  | i2sWriteMonoBlocking => exact execI2sWriteMonoBlocking_framed

end commands

/-- Settles O12: the frame that each of the 34 commands keeps. -/
theorem commandsLeaveSequencerAlone : Obligations.CommandsLeaveSequencerAlone := fun i s t ht =>
  have h := exec_framed i s t ht
  ⟨h.seq, h.cfg, h.cfgErr, h.halted, h.cmd, h.a, h.b, h.v, h.todo, h.turns, h.queue⟩

/-! ### What a turn may do -/

theorem perform_framed (s : State) : Framed s s.perform := by
  unfold State.perform
  split
  · exact exec_framed _ s
  · exact framed_next.mpr (CommandFrame.rejectWord s)

/-- Putting a command on the port touches nothing of the host's frame, so its first step is framed by the state before
(R90). -/
theorem HostFrame.of_issue {s t : State} {c : Command} {rest : List Command} (h : HostFrame (s.issue c rest) t) :
    HostFrame s t := { h with }

theorem hostTurn_next {s t : State} (ht : s.hostTurn = .next t) : HostFrame s t := by
  unfold State.hostTurn at ht
  split at ht
  · split at ht
    · cases ht
      exact (CommandFrame.refl s).toHostFrame
    · exact HostFrame.of_issue (perform_framed _ t ht).toHostFrame
  · exact (perform_framed s t ht).toHostFrame
  · exact (perform_framed s t ht).toHostFrame

/-- Loading the next word takes at most the oldest of the queue (R331). -/
theorem loadWord_changes (s : State) : ∃ (q : List Word32) (u : Sequencer),
    s.loadWord = { s with txq := q, seq := u } ∧ (q = s.txq ∨ ∃ w, s.txq = w :: q) := by
  unfold State.loadWord
  split
  · rcases s.popToOsr_spec with ⟨-, e⟩ | ⟨w, rest, hq, e⟩
    · exact ⟨s.txq, s.seq, e, .inl rfl⟩
    · exact ⟨rest, _, e, .inr ⟨w, hq⟩⟩
  · exact ⟨s.txq, s.seq, rfl, .inl rfl⟩

theorem highHalf_changes (s : State) : ∃ u : Sequencer, s.highHalf = { s with seq := u } := by
  unfold State.highHalf
  split <;> exact ⟨_, rfl⟩

/-- A turn of the sequencer writes only the queue, of which it takes at most the oldest word, and its own fields. -/
theorem sequencerTurn_changes (s : State) : ∃ (q : List Word32) (u : Sequencer),
    s.sequencerTurn = { s with txq := q, seq := u } ∧ (q = s.txq ∨ ∃ w, s.txq = w :: q) := by
  rcases sequencerTurn_cases s with ⟨-, e⟩ | ⟨-, -, e⟩ | ⟨-, -, e⟩
  · exact ⟨s.txq, s.seq, e, .inl rfl⟩
  · obtain ⟨q, u, hload, hq⟩ := loadWord_changes s
    rw [hload] at e
    exact ⟨q, _, e, hq⟩
  · obtain ⟨u, hhigh⟩ := highHalf_changes s
    exact ⟨s.txq, u, e.trans hhigh, .inl rfl⟩

theorem step_sequencer {s : State} {ts : List Turn} (h : s.turns = .sequencer :: ts) :
    step s = .next { s with turns := ts }.sequencerTurn := by simp only [step, h]

/-- Settles O13: the sequencer's turn only writes what `loadWord` and the two half bit-times write. -/
theorem sequencerTakesOnlyOldestWord : Obligations.SequencerTakesOnlyOldestWord := fun s ts hts => by
  obtain ⟨q, u, e, hq⟩ := sequencerTurn_changes { s with turns := ts }
  exact ⟨q, u, by rw [step_sequencer hts, e], hq⟩

/-- Everything a step can do: nothing with no turn left, else the turn of the host, of the sequencer or of a reset. -/
theorem step_next {s t : State} (ht : step s = .next t) :
    (s.turns = [] ∧ t = s) ∨
      (∃ ts, s.turns = .host :: ts ∧ HostFrame { s with turns := ts } t) ∨
      (∃ ts, s.turns = .sequencer :: ts ∧ t = { s with turns := ts }.sequencerTurn) ∨
      (∃ ts, s.turns = .reset :: ts ∧ t = { s with turns := ts }.resetBlock) := by
  unfold step at ht
  split at ht
  · next hts => cases ht; exact .inl ⟨hts, rfl⟩
  · next ts hts => exact .inr (.inl ⟨ts, hts, hostTurn_next ht⟩)
  · next ts hts => cases ht; exact .inr (.inr (.inl ⟨ts, hts, rfl⟩))
  · next ts hts => cases ht; exact .inr (.inr (.inr ⟨ts, hts, rfl⟩))

/-- Settles O14: one case per turn, the host's by its frame. -/
theorem stickyBitsClearedOnlyByReset : Obligations.StickyBitsClearedOnlyByReset := fun s t ht => by
  rcases step_next ht with ⟨-, rfl⟩ | ⟨ts, -, hhost⟩ | ⟨ts, -, rfl⟩ | ⟨ts, hts, rfl⟩
  · exact ⟨rfl, fun _ => ⟨id, id, rfl, rfl⟩⟩
  · exact ⟨hhost.cfg, fun _ => ⟨hhost.illegal, hhost.txover, hhost.cfgErr, hhost.halted⟩⟩
  · simp
  · exact ⟨rfl, fun hreset => absurd (by rw [hts]; rfl) hreset⟩

/-! ### The keypad invariants of R37 -/

theorem Keypad.wf.scanColumn {k : Keypad} (h : k.wf) (t : Time) (cols : BitVec 4) (col : Nat) :
    (Keypad.scanColumn t cols k col).wf := by
  rcases scanColumn_spec t cols k col with ⟨-, hk⟩ | ⟨-, hb, hk⟩ | ⟨-, -, hk⟩ <;> rw [hk]
  · exact h
  · exact h.press hb
  · exact h.release _

/-- A scan step keeps R37's invariants: each column does, and the row they are about is no part of them (R252). -/
theorem Keypad.wf.scanStep {k : Keypad} (h : k.wf) (t : Time) (cols : BitVec 4) : (k.scanStep t cols).wf :=
  have hrow : (Keypad.scanRow t cols k).wf :=
    List.foldlRecOn (motive := Keypad.wf) _ _ h fun _ hk col _ => hk.scanColumn t cols col
  hrow

theorem HostFrame.keypad_wf {s t : State} (h : HostFrame s t) (hk : s.kp.wf) : t.kp.wf := by
  rcases h.keypad with e | e | ⟨time, cols, e⟩ <;> rw [e]
  · exact hk
  · exact hk
  · exact hk.scanStep time cols

theorem step_keypad_wf {s t : State} (hk : s.kp.wf) (ht : step s = .next t) : t.kp.wf := by
  rcases step_next ht with ⟨-, rfl⟩ | ⟨ts, -, hhost⟩ | ⟨ts, -, rfl⟩ | ⟨ts, -, rfl⟩
  · exact hk
  · exact hhost.keypad_wf hk
  · rw [State.sequencerTurn_kp]
    exact hk
  · exact Keypad.wf_reset

/-- The stack holds each of the 16 button identities at most once (R37 (b)). -/
theorem Keypad.wf.stack_length_le {k : Keypad} (h : k.wf) : k.stack.length ≤ 16 := by
  obtain ⟨-, hnodup, -⟩ := h
  have hids : (k.stack.map BitVec.toFin).Nodup := hnodup.map fun _ _ => BitVec.toFin_inj.mp
  simpa using hids.length_le_card

/-- Settles O11: reset and every scan column keep R37's invariants, and no other write touches the fields they name. -/
theorem keypadInvariantsKept : Obligations.KeypadInvariantsKept :=
  ⟨Keypad.wf_reset, fun _ _ => step_keypad_wf, fun _ => Keypad.wf.stack_length_le⟩

end Sys2Proof.Machine
end

section
/-! The glitch filter over many samples (R229, R231; O27): its register is the word of the last N samples, and one that
is all ones or all zeros decides the debounced state. -/

namespace Sys2Proof.Machine

/-- The filter after the samples `xs`, oldest first. -/
def Filter.feed (c : Config) (f : Filter) (xs : List Bool) : Filter := xs.foldl (fun g y => (gfStep c g y).1) f

theorem Filter.feed_concat (c : Config) (f : Filter) (xs : List Bool) (x : Bool) :
    f.feed c (xs ++ [x]) = (gfStep c (f.feed c xs) x).1 := List.foldl_concat _ _ _ _

/-- A sample enters at bit 0 and the older ones move up by one (R229). -/
theorem gfStep_sr_testBit {c : Config} {k : Nat} (hk : k < c.n) (f : Filter) (x : Bool) :
    (gfStep c f x).1.sr.testBit k = if k = 0 then x else f.sr.testBit (k - 1) := by
  obtain ⟨hsr, -⟩ := gfStep_spec c f x
  rw [hsr, Nat.testBit_mod_two_pow, decide_eq_true hk, Bool.true_and]
  cases k with
  | zero => cases x <;> simp
  | succ k =>
    have hshift : (f.sr * 2 + x.toNat) / 2 = f.sr := by
      have := x.toNat_lt
      omega
    simp [Nat.testBit_succ, hshift]

/-- Bit `k` of the register is the sample fed `k` samples before the last. -/
theorem Filter.feed_sr_testBit {c : Config} (f : Filter) {k : Nat} {xs : List Bool} (hk : k < c.n)
    (hlen : k < xs.length) : (f.feed c xs).sr.testBit k = xs.reverse.getD k false := by
  induction xs using List.reverseRecOn generalizing k with
  | nil => simp at hlen
  | append_singleton xs x ih =>
    rw [Filter.feed_concat, gfStep_sr_testBit hk, List.reverse_concat]
    cases k with
    | zero => rfl
    | succ k => simpa using ih (by omega) (by simpa using hlen)

/-- The state after a sample: set by a register of all ones, cleared by one of all zeros, else kept (R229). -/
theorem gfStep_state {c : Config} (hn : 1 ≤ c.n) (f : Filter) (x : Bool) :
    (gfStep c f x).1.state =
      if (gfStep c f x).1.sr = 2 ^ c.n - 1 then true else if (gfStep c f x).1.sr = 0 then false else f.state := by
  have hpow : 2 ≤ 2 ^ c.n := Nat.le_self_pow (by omega) 2
  have hne : 0 ≠ 2 ^ c.n - 1 := by omega
  dsimp only [gfStep]
  split
  · next h => simp [h.1]
  · split
    · next h => simp [h.1, hne]
    · next hset hclear =>
      dsimp only
      split_ifs with hones hzeros
      · simpa [hones] using hset
      · simpa [hzeros] using hclear
      · rfl

/-- At least one sample is among N equal ones, and it is the last one fed. -/
theorem Filter.feed_replicate {c : Config} (hn : 1 ≤ c.n) (f : Filter) (xs : List Bool) (x : Bool) :
    ∃ g, f.feed c (xs ++ List.replicate c.n x) = (gfStep c g x).1 := by
  obtain ⟨m, hm⟩ : ∃ m, c.n = m + 1 := ⟨c.n - 1, by omega⟩
  refine ⟨f.feed c (xs ++ List.replicate m x), ?_⟩
  rw [← Filter.feed_concat, hm, List.replicate_succ', List.append_assoc]

/-- N equal samples fill the register with their value, whatever was in it. -/
theorem Filter.feed_replicate_sr {c : Config} (hn : 1 ≤ c.n) (f : Filter) (xs : List Bool) (x : Bool) :
    (f.feed c (xs ++ List.replicate c.n x)).sr = if x then 2 ^ c.n - 1 else 0 := by
  apply Nat.eq_of_testBit_eq
  intro k
  by_cases hk : k < c.n
  · have hfed : k < (xs ++ List.replicate c.n x).length := by simp; omega
    have hbit : (xs ++ List.replicate c.n x).reverse.getD k false = x := by
      simp [List.getElem?_append_left, hk]
    rw [Filter.feed_sr_testBit f hk hfed, hbit]
    cases x <;> simp [hk]
  · have hle : 2 ^ c.n ≤ 2 ^ k := Nat.pow_le_pow_right two_pos (Nat.not_lt.mp hk)
    obtain ⟨g, hg⟩ := Filter.feed_replicate hn f xs x
    rw [hg, Nat.testBit_lt_two_pow ((gfStep_wf c g x).trans_le hle)]
    cases x <;> simp [hk]

/-- N equal samples decide the state: the last of them is fed to a register that then is all their value. -/
theorem Filter.feed_replicate_state {c : Config} (hn : 1 ≤ c.n) (f : Filter) (xs : List Bool) (x : Bool) :
    (f.feed c (xs ++ List.replicate c.n x)).state = x := by
  have hpow : 2 ≤ 2 ^ c.n := Nat.le_self_pow (by omega) 2
  have hsr := Filter.feed_replicate_sr hn f xs x
  obtain ⟨g, hg⟩ := Filter.feed_replicate hn f xs x
  rw [hg] at hsr ⊢
  rw [gfStep_state hn, hsr]
  cases x
  · simp; omega
  · simp

/-- Settles O27, by induction on the samples from the last one backwards. -/
theorem filterFollowsLastSamples : Obligations.FilterFollowsLastSamples := fun _ f xs =>
  ⟨fun x hn => congrArg₂ Filter.mk (Filter.feed_replicate_sr hn f xs x) (Filter.feed_replicate_state hn f xs x),
    fun _ hk hlen => Filter.feed_sr_testBit f hk hlen⟩

end Sys2Proof.Machine
end

section
/-! The pin levels (R38, R333; O55). -/

namespace Sys2Proof.Machine

/-- A pin that is none of the I2S pins shows the level of the first row whose pin it is. -/
theorem pinLevel_of_not_i2s {s : State} {p : Nat} (h : p ∉ [s.cfg.pinBclk, s.cfg.pinWs, s.cfg.pinData]) :
    s.pinLevel p =
      if p = s.cfg.rowPins.p0 then some (s.rowLevel 0)
      else if p = s.cfg.rowPins.p1 then some (s.rowLevel 1)
      else if p = s.cfg.rowPins.p2 then some (s.rowLevel 2)
      else if p = s.cfg.rowPins.p3 then some (s.rowLevel 3)
      else none := by
  simp only [List.mem_cons, List.not_mem_nil, or_false, not_or] at h
  obtain ⟨hbclk, hws, hdata⟩ := h
  simp only [State.pinLevel, hbclk, hws, hdata, if_false]

/-- The keypad pins of a legal configuration are eight different numbers (R451 code 4). -/
theorem legal_keypadPins_nodup {c : Config} (h : c.Legal) : (c.rowPins.toList ++ c.colPins.toList).Nodup := by
  obtain ⟨-, -, -, hpins, -⟩ := h.checks
  simpa [Config.keypadPinsDistinct] using hpins

/-- The I2S pins of a legal configuration follow each other (R78, R451 code 3). -/
theorem legal_i2sPins_adjacent {c : Config} (h : c.Legal) :
    c.pinWs = c.pinBclk + 1 ∧ c.pinData = c.pinBclk + 2 := by
  obtain ⟨-, -, hpins, -⟩ := h.checks
  simpa [Config.i2sPinsAdjacent] using hpins

theorem pinLevel_i2s {s : State} (h : s.cfg.Legal) :
    s.pinLevel s.cfg.pinBclk = some s.seq.bclk ∧ s.pinLevel s.cfg.pinWs = some s.seq.ws ∧
      s.pinLevel s.cfg.pinData = some s.seq.data := by
  obtain ⟨hws, hdata⟩ := legal_i2sPins_adjacent h
  simp [State.pinLevel, hws, hdata]

theorem bitVec2_cases : ∀ r : BitVec 2, r = 0 ∨ r = 1 ∨ r = 2 ∨ r = 3 := by decide

theorem rowPin_mem (p : Pins) (r : BitVec 2) : p.toList.getD r.toNat 0 ∈ p.toList := by
  have hr : r.toNat < p.toList.length := r.isLt
  rw [List.getD_eq_getElem _ _ hr]
  exact List.getElem_mem hr

/-- Where the row pins are different numbers, none of them an I2S pin, each shows the level of its own row (R38). -/
theorem pinLevel_row {s : State} (hnodup : s.cfg.rowPins.toList.Nodup) (r : BitVec 2)
    (h : s.cfg.rowPins.toList.getD r.toNat 0 ∉ [s.cfg.pinBclk, s.cfg.pinWs, s.cfg.pinData]) :
    s.pinLevel (s.cfg.rowPins.toList.getD r.toNat 0) = some (decide (r = s.kp.row)) := by
  rw [pinLevel_of_not_i2s h]
  simp only [Pins.toList, List.nodup_cons, List.mem_cons, List.not_mem_nil, or_false, not_or] at hnodup
  obtain ⟨⟨h01, h02, h03⟩, ⟨h12, h13⟩, h23, -⟩ := hnodup
  rcases bitVec2_cases r with rfl | rfl | rfl | rfl <;>
    simp [Pins.toList, State.rowLevel, Ne.symm h01, Ne.symm h02, Ne.symm h03, Ne.symm h12, Ne.symm h13, Ne.symm h23]

/-- A pin that is neither an I2S nor a row pin is not driven. -/
theorem pinLevel_undriven {s : State} {p : Nat} (h : p ∉ [s.cfg.pinBclk, s.cfg.pinWs, s.cfg.pinData])
    (hrow : p ∉ s.cfg.rowPins.toList) : s.pinLevel p = none := by
  rw [pinLevel_of_not_i2s h]
  simp_all [Pins.toList]

/-- Settles O55: codes 3 and 4 of R451 keep the I2S pins apart and the keypad pins apart, the hypothesis the ones from
the others (log 22). -/
theorem pinsShowRowAndSerialLines : Obligations.PinsShowRowAndSerialLines := fun s hlegal hapart => by
  obtain ⟨hrows, -, hdisj⟩ := List.nodup_append.mp (legal_keypadPins_nodup hlegal)
  obtain ⟨hbclk, hws, hdata⟩ := pinLevel_i2s hlegal
  refine ⟨hbclk, hws, hdata, fun r => pinLevel_row hrows r ?_, fun p hp => pinLevel_undriven ?_ fun hrow => ?_⟩
  · exact hapart _ (List.mem_append_left _ (rowPin_mem _ r))
  · exact hapart p (List.mem_append_right _ hp)
  · exact hdisj p hrow p hp rfl

end Sys2Proof.Machine
end

section
/-! Commands that only answer (R77; O15): each leaves what its responses are computed from. -/

namespace Sys2Proof.Machine

/-- The command only drives the response buses, and drives them with the same values when it is issued again. -/
def AnswersAgain (i : Instr) (s : State) : Prop :=
  ∃ r0 r1 : Bus, exec i s = .next (s.respond r0 r1) ∧ exec i (s.respond r0 r1) = .next (s.respond r0 r1)

section
variable {i : Instr} {s : State} {r0 r1 : Bus}

/-- A command on a copy of a unit answers again when what it answers does not depend on what the buses hold. -/
theorem answersAgain_of_onInstance (hrun : s.halted = false) (hwf : i.wellFormed s.cfg = true)
    (hfirst : exec i s = onInstance (i.unitCount s.cfg) i.inst s (.next (s.respond r0 r1)))
    (hagain : ∀ x y, exec i (s.respond x y) =
      onInstance (i.unitCount s.cfg) i.inst (s.respond x y) (.next (s.respond r0 r1))) : AnswersAgain i s := by
  have hi : i.inst.toNat < i.unitCount s.cfg := of_decide_eq_true hwf
  exact ⟨r0, r1, hfirst.trans (onInstance_of_legal hrun hi _), (hagain r0 r1).trans (onInstance_of_legal hrun hi _)⟩

/-- The same for a command of a unit of which there is one. -/
theorem answersAgain_of_unlessHalted (hrun : s.halted = false)
    (hfirst : exec i s = unlessHalted s (.next (s.respond r0 r1)))
    (hagain : ∀ x y, exec i (s.respond x y) = unlessHalted (s.respond x y) (.next (s.respond r0 r1))) :
    AnswersAgain i s :=
  ⟨r0, r1, hfirst.trans (unlessHalted_of_running hrun _), (hagain r0 r1).trans (unlessHalted_of_running hrun _)⟩

/-- SYS.STATUS answers from the error state, which a response leaves as it is (R350). -/
theorem sysStatus_answersAgain (s : State) : AnswersAgain .sysStatus s :=
  have hagain (x y : Bus) : exec .sysStatus (s.respond x y) = .next (s.respond (systemResponse s) 0) := rfl
  ⟨systemResponse s, 0, rfl, hagain _ _⟩

/-- Each command of R77 computes its responses from registers that a response leaves as they are. -/
theorem readOnly_answersAgain (hread : isReadOnly i = true) (hrun : s.halted = false)
    (hwf : i.wellFormed s.cfg = true) : AnswersAgain i s := by
  cases i with
  | oscSaw i | oscSquare i | oscSine i | oscRead i | gfRead i | qdRead i | adsrApply i | adsrRead i | opSaw i
  | opSquare i | opSine i | opRead i => exact answersAgain_of_onInstance hrun hwf rfl fun _ _ => rfl
  | kpRead | mixMix | i2sIsWritable | i2sStatus => exact answersAgain_of_unlessHalted hrun rfl fun _ _ => rfl
  | sysStatus => exact sysStatus_answersAgain s
  | oscTick i | oscSetFreq i | oscSetDelta i | oscTickMod i | gfSample i | qdSample i | kpScanStep | kpGetEvent
  | adsrFeed i | adsrTick i | opTick i | opFeedEvent i | opSetInput i | i2sWrite | i2sWriteBlocking | i2sWriteMono
  | i2sWriteMonoBlocking => cases hread

end

/-- Settles O15: one case per command; the seventeen of R77 answer again. -/
theorem readsChangeNothingAndRepeat : Obligations.ReadsChangeNothingAndRepeat :=
  fun _ _ hread hrun hwf => readOnly_answersAgain hread hrun hwf

end Sys2Proof.Machine
end

section
/-! The sine table's index (R71, R206; O22) and the queue word of a sample (R73; O51). -/

namespace Sys2Proof

/-- A legal sine table has one entry per interval, and their number is a power of two from 4 to 65536 (R451 code 7). -/
theorem Config.Legal.sineTable_size {c : Config} (h : c.Legal) :
    c.sineTable.length = c.l ∧ ∃ k, k ≤ 16 ∧ c.l = 2 ^ k := by
  obtain ⟨-, -, -, -, -, -, hsine, -⟩ := h.checks
  simp only [Config.sineLegal, Bool.and_eq_true, List.any_eq_true, List.mem_range, decide_eq_true_eq] at hsine
  obtain ⟨⟨⟨k, hk, -, hl⟩, hlen⟩, -⟩ := hsine
  exact ⟨hlen, k, by omega, hl⟩

end Sys2Proof

namespace Sys2Proof.Machine

/-- A phase lies in one of the `2^k` equal intervals of its range. -/
theorem phase_interval_lt {k : Nat} (hk : k ≤ 16) (phase : Word32) : phase.toNat / (2 ^ 32 / 2 ^ k) < 2 ^ k := by
  rw [Nat.pow_div (by omega) (by decide), Nat.div_lt_iff_lt_mul (by positivity), ← pow_add,
    Nat.add_sub_cancel' (by omega)]
  exact phase.isLt

/-- Settles O22: the interval's number is below `L`, the other index is reduced modulo `L`, and the table has `L`
entries. -/
theorem sineTableReadsInRange : Obligations.SineTableReadsInRange := fun c phase hlegal => by
  obtain ⟨hlen, k, hk, hl⟩ := hlegal.sineTable_size
  rw [hlen, hl]
  exact ⟨phase_interval_lt hk phase, Nat.mod_lt _ (by positivity)⟩

/-- The queue word is the W-bit pattern shifted to the top: with at most 32 bits nothing is cut off (R73). -/
theorem txWord_toNat {c : Config} (hw : c.w ≤ 32) (x : Int) : (txWord c x).toNat = uN c.w x * 2 ^ (32 - c.w) := by
  have hlt : uN c.w x * 2 ^ (32 - c.w) < 2 ^ 32 :=
    calc uN c.w x * 2 ^ (32 - c.w) < 2 ^ c.w * 2 ^ (32 - c.w) :=
          Nat.mul_lt_mul_of_pos_right (uN_lt c.w x) (by positivity)
      _ = 2 ^ 32 := by rw [← pow_add, Nat.add_sub_cancel' hw]
  rw [txWord, BitVec.toNat_ofNat, Nat.mod_eq_of_lt hlt]

/-- `u_n` is congruent to its argument modulo `2^n`. -/
theorem uN_congr (n : Nat) (x : Int) : ((uN n x : Nat) - x) % 2 ^ n = 0 := by
  rw [uN_eq_emod, Int.sub_emod, Int.emod_emod, ← Int.sub_emod, sub_self, Int.zero_emod]

/-- Settles O51: the top W bits of the word are `u_W` of the sample, whose value as a sample is the sample itself. -/
theorem queueWordIsLeftAligned : Obligations.QueueWordIsLeftAligned := fun c x hlegal hx => by
  have hw : c.w ≤ 32 := by
    have := hlegal.w_cases
    omega
  refine ⟨txWord_leftAligned c x, hx, ?_⟩
  rw [txWord_toNat hw, Nat.mul_div_cancel _ (by positivity)]
  exact uN_congr c.w x

end Sys2Proof.Machine
end

section
/-! Writes after an open gate (R460; O53). A host whose next commands are I2S.WRITEs, with room for all of them, keeps
that room through every turn: its own push takes one place for one write fewer to come, the sequencer's turn only frees
places. -/

namespace Sys2Proof.Machine

/-! ### Runs -/

/-- A run of `k + 1` steps is a step and a run of `k` steps. -/
theorem run_succ_next {M : Host.Core} {k : Nat} {s t : M.State} (h : M.run (k + 1) s = .next t) :
    ∃ u, M.step s = .next u ∧ M.run k u = .next t := by
  rw [Host.Core.run] at h
  split at h
  · next u hstep => exact ⟨u, hstep, h⟩
  · cases h
  · cases h

/-- An idle host with nothing to issue does nothing. -/
theorem hostTurn_idle_nil {s : State} (hidle : s.phase = .idle) (htodo : s.todo = []) : s.hostTurn = .next s := by
  simp only [State.hostTurn, hidle, htodo]

/-- An idle host issues its next command (R90). -/
theorem hostTurn_idle_cons {s : State} {c : Command} {rest : List Command} (hidle : s.phase = .idle)
    (htodo : s.todo = c :: rest) : s.hostTurn = (s.issue c rest).perform := by
  simp only [State.hostTurn, hidle, htodo]

theorem step_host {s : State} {ts : List Turn} (h : s.turns = .host :: ts) :
    step s = { s with turns := ts }.hostTurn := by simp only [step, h]

/-- A turn of the host takes commands off the list only. -/
theorem hostTurn_todo_suffix {s t : State} (h : s.hostTurn = .next t) : t.todo <:+ s.todo := by
  have hport (hperform : s.perform = .next t) : t.todo <:+ s.todo := by
    rw [(perform_framed s t hperform).todo]
  cases hphase : s.phase with
  | idle =>
    cases htodo : s.todo with
    | nil => cases (hostTurn_idle_nil hphase htodo).symm.trans h; simp [htodo]
    | cons c rest =>
      rw [hostTurn_idle_cons hphase htodo] at h
      rw [(perform_framed _ t h).todo]
      exact List.suffix_cons c rest
  | active => exact hport (by simpa only [State.hostTurn, hphase] using h)
  | second => exact hport (by simpa only [State.hostTurn, hphase] using h)

/-- No step gives the host a command to issue. -/
theorem step_todo_suffix {s t : State} (h : step s = .next t) : t.todo <:+ s.todo := by
  unfold step at h
  split at h
  · cases h; exact List.suffix_refl _
  · exact (hostTurn_todo_suffix h :)
  · cases h; simp
  · cases h; exact List.suffix_refl _

theorem run_todo_suffix {k : Nat} {s t : State} (h : Host.Core.run Sys2Proof.core k s = .next t) :
    t.todo <:+ s.todo := by
  induction k generalizing s with
  | zero => cases h; exact List.suffix_refl _
  | succ k ih =>
    obtain ⟨u, hstep, hrun⟩ := run_succ_next h
    exact (ih hrun).trans (step_todo_suffix hstep)

/-! ### What becomes of the queue -/

/-- The word that an I2S.WRITE command pushes (R323). -/
def writeWord (c : Config) (x : Command) : Word32 := txWord c (sampleOperand c x.a)

/-- From `s` to `t` the words given were appended, none was discarded, and at most `takes` were taken from the front. -/
def Delivered (s t : State) (words : List Word32) (takes : Nat) : Prop :=
  t.txover = s.txover ∧ ∃ n, n ≤ takes ∧ t.txq.length + n = s.txq.length + words.length ∧
    t.txq = (s.txq ++ words).drop n

section
variable {s u t : State} {words : List Word32} {takes : Nat}

theorem Delivered.refl (s : State) (takes : Nat) : Delivered s s [] takes := ⟨rfl, 0, by simp⟩

/-- Before the step that pushes a word, that word was one more to come. -/
theorem Delivered.of_pushed {w : Word32} (hq : u.txq = s.txq ++ [w]) (hover : u.txover = s.txover)
    (h : Delivered u t words takes) : Delivered s t (w :: words) takes := by
  obtain ⟨hover', n, hn, hlen, hdrop⟩ := h
  refine ⟨hover'.trans hover, n, hn, ?_, by simpa [hq] using hdrop⟩
  simp only [hq, List.length_append, List.length_cons, List.length_nil] at hlen ⊢
  omega

/-- Before the step that takes the oldest word, that word was one more to be taken. -/
theorem Delivered.of_taken {w : Word32} (hq : s.txq = w :: u.txq) (hover : u.txover = s.txover)
    (h : Delivered u t words takes) : Delivered s t words (takes + 1) := by
  obtain ⟨hover', n, hn, hlen, hdrop⟩ := h
  refine ⟨hover'.trans hover, n + 1, by omega, ?_, by simpa [hq] using hdrop⟩
  simp only [hq, List.length_cons]
  omega

theorem Delivered.of_untouched (hq : u.txq = s.txq) (hover : u.txover = s.txover)
    (h : Delivered u t words takes) : Delivered s t words takes := by
  rwa [Delivered, hq, hover] at h

theorem Delivered.mono {more : Nat} (hle : takes ≤ more) (h : Delivered s t words takes) :
    Delivered s t words more := by
  obtain ⟨hover, n, hn, hrest⟩ := h
  exact ⟨hover, n, hn.trans hle, hrest⟩

end

/-! ### A host about to write -/

/-- The block runs, its port is free, no reset is to come, and the host's next commands are the writes `ws`, for all of
which the queue has room. -/
structure ReadyToWrite (s : State) (ws rest : List Command) : Prop where
  running : s.halted = false
  idle : s.phase = .idle
  noReset : .reset ∉ s.turns
  todo : s.todo = ws ++ rest
  writes : ∀ c ∈ ws, isWrite c = true
  room : s.txq.length + ws.length ≤ s.cfg.q

theorem decode_of_isWrite {c : Command} (h : isWrite c = true) : decode c.cmd = .ok .i2sWrite := by
  unfold isWrite at h
  split at h
  · assumption
  · cases h

/-- An I2S.WRITE issued while the queue has room appends its word and completes at once (R323). -/
theorem perform_issue_write {s : State} {c : Command} {rest : List Command} (hrun : s.halted = false)
    (hwrite : isWrite c = true) (hroom : s.txq.length < s.cfg.q) :
    (s.issue c rest).perform = .next { s.issue c rest with txq := s.txq ++ [writeWord s.cfg c] }.done := by
  have hdec : decode (s.issue c rest).cmd = .ok .i2sWrite := decode_of_isWrite hwrite
  have hroom' : (s.issue c rest).hasRoom = true := decide_eq_true hroom
  calc (s.issue c rest).perform = exec .i2sWrite (s.issue c rest) := by simp only [State.perform, hdec]
    _ = .next ((s.issue c rest).push (s.issue c rest).operandWord).done :=
      unlessHalted_of_running (s := s.issue c rest) hrun _
    _ = _ := by rw [State.push_of_room hroom']; rfl

section
variable {s u t : State} {ws rest : List Command}

/-- The turn that comes next is no part of the host's readiness. -/
theorem ReadyToWrite.take_turn {turn : Turn} {ts : List Turn} (h : ReadyToWrite s ws rest)
    (hts : s.turns = turn :: ts) : ReadyToWrite { s with turns := ts } ws rest :=
  { h with noReset := fun hmem => h.noReset (hts ▸ List.mem_cons_of_mem turn hmem) }

/-- A write's own turn leaves the host ready for the writes after it. -/
theorem ReadyToWrite.hostTurn_write {c : Command} (h : ReadyToWrite s (c :: ws) rest) :
    ∃ u, s.hostTurn = .next u ∧ ReadyToWrite u ws rest ∧ u.txq = s.txq ++ [writeWord s.cfg c] ∧
      u.txover = s.txover ∧ u.cfg = s.cfg ∧ u.turns = s.turns := by
  obtain ⟨hrun, hidle, hreset, htodo, hwrites, hroom⟩ := h
  rw [List.length_cons] at hroom
  refine ⟨_, (hostTurn_idle_cons hidle htodo).trans
    (perform_issue_write hrun (hwrites c List.mem_cons_self) (by omega)), ?_, rfl, rfl, rfl, rfl⟩
  refine ⟨hrun, rfl, hreset, rfl, fun x hx => hwrites x (List.mem_cons_of_mem c hx), ?_⟩
  show (s.txq ++ [_]).length + ws.length ≤ s.cfg.q
  rw [List.length_append, List.length_singleton]
  omega

/-- With no write left, a turn of the host after which `rest` is still to come issued nothing. -/
theorem ReadyToWrite.hostTurn_rest (h : ReadyToWrite s [] rest) (hturn : s.hostTurn = .next u)
    (hsuffix : rest <:+ u.todo) : u = s := by
  cases rest with
  | nil => exact Host.Outcome.next.inj (hturn.symm.trans (hostTurn_idle_nil h.idle h.todo))
  | cons c rest =>
    rw [hostTurn_idle_cons h.idle h.todo] at hturn
    rw [(perform_framed _ u hturn).todo] at hsuffix
    exact absurd hsuffix.length_le (by simp)

/-- A turn of the sequencer only takes from the queue, so the room stays. -/
theorem ReadyToWrite.sequencerTurn (h : ReadyToWrite s ws rest) :
    ReadyToWrite s.sequencerTurn ws rest ∧
      (s.sequencerTurn.txq = s.txq ∨ ∃ w, s.txq = w :: s.sequencerTurn.txq) := by
  obtain ⟨hrun, hidle, hreset, htodo, hwrites, hroom⟩ := h
  obtain ⟨q, v, hturn, hq⟩ := sequencerTurn_changes s
  rw [hturn]
  refine ⟨⟨hrun, hidle, hreset, htodo, hwrites, ?_⟩, hq⟩
  show q.length + ws.length ≤ s.cfg.q
  rcases hq with rfl | ⟨w, hq⟩
  · exact hroom
  · rw [hq, List.length_cons] at hroom
    omega

/-- By induction on the run: each of its turns keeps the host ready, and the sequencer takes at most one word in each of
its own. -/
theorem ReadyToWrite.run_delivered {k : Nat} (h : ReadyToWrite s ws rest)
    (hrun : Host.Core.run Sys2Proof.core k s = .next t) (hend : t.todo = rest) :
    Delivered s t (ws.map (writeWord s.cfg)) ((s.turns.take k).count .sequencer) := by
  induction k generalizing s ws with
  | zero =>
    cases hrun
    obtain rfl : ws = [] := by simpa using h.todo.symm.trans hend
    exact .refl _ _
  | succ k ih =>
    obtain ⟨u, (hstep : step s = .next u), hrun⟩ := run_succ_next hrun
    cases hts : s.turns with
    | nil =>
      simp only [step, hts] at hstep
      cases hstep
      simpa [hts] using ih h hrun
    | cons turn ts =>
      have hready := h.take_turn hts
      rw [List.take_succ_cons]
      cases turn with
      | host =>
        rw [step_host hts] at hstep
        rw [List.count_cons_of_ne (by decide)]
        cases ws with
        | nil =>
          cases hready.hostTurn_rest hstep (hend ▸ run_todo_suffix hrun)
          exact ih hready hrun
        | cons c ws =>
          obtain ⟨v, hv, hready', hq, hover, hcfg, hturns⟩ := hready.hostTurn_write
          cases hstep.symm.trans hv
          have hrest := ih hready' hrun
          rw [hcfg, hturns] at hrest
          exact hrest.of_pushed hq hover
      | sequencer =>
        cases (step_sequencer hts).symm.trans hstep
        rw [List.count_cons_self]
        obtain ⟨hready', hq⟩ := hready.sequencerTurn
        have hrest := ih hready' hrun
        simp only [State.sequencerTurn_cfg, State.sequencerTurn_turns] at hrest
        rcases hq with hq | ⟨w, hq⟩
        · exact (hrest.of_untouched hq (by simp)).mono (Nat.le_succ _)
        · exact hrest.of_taken hq (by simp)
      | reset => exact absurd (hts ▸ List.mem_cons_self) h.noReset

end

/-- Settles O53: the open gate is room for two words, and the two writes are a case of any number of them. -/
theorem openGateAdmitsStereoPair : Obligations.OpenGateAdmitsStereoPair :=
  fun k s t c1 c2 rest hrunning hgate hidle hreset htodo h1 h2 hrun hend =>
    have hready : ReadyToWrite s [c1, c2] rest :=
      ⟨hrunning, hidle, hreset, htodo, by simp [h1, h2], hgate⟩
    hready.run_delivered hrun hend

end Sys2Proof.Machine
end

section
/-! The decoder and the encoder (R91, R98, R99; O1, O2, O3). `Answers` says what the decoder's answer means for the word
it was given: a command whose word it is, or one of R99's reasons that there is none. One rule per unit, read off its
table of R98, gives it for every word. -/

namespace Sys2Proof
open Machine

/-! ### The fields of a command word as numbers -/

theorem unitField_toNat (w : CmdWord) : (unitField w).toNat = w.toNat / 2 ^ 12 := by
  rw [unitField, BitVec.extractLsb'_toNat, Nat.shiftRight_eq_div_pow, Nat.mod_eq_of_lt (by omega)]

theorem opField_toNat (w : CmdWord) : (opField w).toNat = w.toNat / 2 ^ 8 % 2 ^ 4 := by
  rw [opField, BitVec.extractLsb'_toNat, Nat.shiftRight_eq_div_pow]

theorem instField_toNat (w : CmdWord) : (instField w).toNat = w.toNat % 2 ^ 8 := by
  rw [instField, BitVec.extractLsb'_toNat, Nat.shiftRight_zero]

/-- R99's condition in terms of the three fields. -/
theorem illegalWord_iff_fields {c : Config} {w : CmdWord} :
    illegalWord c w ↔ (0x8 ≤ (unitField w).toNat ∧ (unitField w).toNat ≤ 0xE) ∨
      listedOps (unitField w).toNat ≤ (opField w).toNat ∨
      instances c (unitField w).toNat ≤ (instField w).toNat := by
  rw [unitField_toNat, opField_toNat, instField_toNat, illegalWord]

/-- A reserved unit lists no operation (R93, R98). -/
theorem listedOps_reserved {u : Nat} (hlo : 0x8 ≤ u) (hhi : u ≤ 0xE) : listedOps u = 0 := by
  unfold listedOps
  repeat rw [if_neg (by omega)]

/-- A word is known by the numbers in its unit and op fields, up to its inst field. -/
theorem eq_word_of_fields {w : CmdWord} {u o : BitVec 4} (hu : (unitField w).toNat = u.toNat)
    (ho : (opField w).toNat = o.toNat) : w = word u o (instField w) := by
  rw [← BitVec.eq_of_toNat_eq hu, ← BitVec.eq_of_toNat_eq ho, word_fields]

/-! ### What an answer of the decoder means -/

/-- The condition of R99 that a reason of the decoder stands for. -/
def DecodeError.AppliesTo (w : CmdWord) : DecodeError → Prop
  | .reservedUnit => 0x8 ≤ (unitField w).toNat ∧ (unitField w).toNat ≤ 0xE
  | .unlistedOp => listedOps (unitField w).toNat ≤ (opField w).toNat
  | .noSuchInstance => ∀ c, instances c (unitField w).toNat ≤ (instField w).toNat

/-- The answer is a command whose word is `w`, or a reason that applies to `w`. -/
def Answers (w : CmdWord) : Except DecodeError Instr → Prop
  | .ok i => w = encode i
  | .error e => e.AppliesTo w

/-- A reason of the decoder makes the word illegal under every configuration (R99, R100). -/
theorem DecodeError.AppliesTo.illegalWord {w : CmdWord} {e : DecodeError} (h : e.AppliesTo w) (c : Config) :
    illegalWord c w := by
  rw [illegalWord_iff_fields]
  cases e with
  | reservedUnit => exact .inl h
  | unlistedOp => exact .inr (.inl h)
  | noSuchInstance => exact .inr (.inr (h c))

section tables
variable {w : CmdWord}

theorem answers_unlistedOp {u n : Nat} (hu : (unitField w).toNat = u) (ho : (opField w).toNat = listedOps u + n) :
    Answers w (.error .unlistedOp) := by
  show listedOps _ ≤ _
  rw [hu, ho]
  exact Nat.le_add_right _ _

/-- A unit of which there is one answers inst = 0 alone (R94). -/
theorem answers_single {u o : BitVec 4} {i : Instr} (hi : encode i = word u o 0)
    (hu : (unitField w).toNat = u.toNat) (ho : (opField w).toNat = o.toNat) (hone : ∀ c, instances c u.toNat = 1) :
    Answers w (single (instField w) i) := by
  unfold single
  split
  · next hinst => exact (eq_word_of_fields hu ho).trans (by rw [hinst, hi])
  · next hinst =>
    show ∀ c, _
    intro c
    rw [hu, hone c]
    exact Nat.pos_of_ne_zero fun h0 => hinst (BitVec.eq_of_toNat_eq h0)

theorem answers_decodeOsc (hu : (unitField w).toNat = 0x0) : Answers w (decodeOsc (opField w).toNat (instField w)) :=
  match ho : (opField w).toNat with
  | 0 | 1 | 2 | 3 | 4 | 5 | 6 | 7 => eq_word_of_fields hu ho
  | n + 8 => answers_unlistedOp (n := n) hu (ho.trans (Nat.add_comm n 8))

theorem answers_decodeGf (hu : (unitField w).toNat = 0x1) : Answers w (decodeGf (opField w).toNat (instField w)) :=
  match ho : (opField w).toNat with
  | 0 | 1 => eq_word_of_fields hu ho
  | n + 2 => answers_unlistedOp (n := n) hu (ho.trans (Nat.add_comm n 2))

theorem answers_decodeQd (hu : (unitField w).toNat = 0x2) : Answers w (decodeQd (opField w).toNat (instField w)) :=
  match ho : (opField w).toNat with
  | 0 | 1 => eq_word_of_fields hu ho
  | n + 2 => answers_unlistedOp (n := n) hu (ho.trans (Nat.add_comm n 2))

theorem answers_decodeKp (hu : (unitField w).toNat = 0x3) : Answers w (decodeKp (opField w).toNat (instField w)) :=
  match ho : (opField w).toNat with
  | 0 | 1 | 2 => answers_single rfl hu ho fun _ => rfl
  | n + 3 => answers_unlistedOp (n := n) hu (ho.trans (Nat.add_comm n 3))

theorem answers_decodeAdsr (hu : (unitField w).toNat = 0x4) : Answers w (decodeAdsr (opField w).toNat (instField w)) :=
  match ho : (opField w).toNat with
  | 0 | 1 | 2 | 3 => eq_word_of_fields hu ho
  | n + 4 => answers_unlistedOp (n := n) hu (ho.trans (Nat.add_comm n 4))

theorem answers_decodeOp (hu : (unitField w).toNat = 0x5) : Answers w (decodeOp (opField w).toNat (instField w)) :=
  match ho : (opField w).toNat with
  | 0 | 1 | 2 | 3 | 4 | 5 | 6 => eq_word_of_fields hu ho
  | n + 7 => answers_unlistedOp (n := n) hu (ho.trans (Nat.add_comm n 7))

theorem answers_decodeMix (hu : (unitField w).toNat = 0x6) : Answers w (decodeMix (opField w).toNat (instField w)) :=
  match ho : (opField w).toNat with
  | 0 => answers_single rfl hu ho fun _ => rfl
  | n + 1 => answers_unlistedOp (n := n) hu (ho.trans (Nat.add_comm n 1))

theorem answers_decodeI2s (hu : (unitField w).toNat = 0x7) : Answers w (decodeI2s (opField w).toNat (instField w)) :=
  match ho : (opField w).toNat with
  | 0 | 1 | 2 | 3 | 4 | 5 => answers_single rfl hu ho fun _ => rfl
  | n + 6 => answers_unlistedOp (n := n) hu (ho.trans (Nat.add_comm n 6))

theorem answers_decodeSys (hu : (unitField w).toNat = 0xF) : Answers w (decodeSys (opField w).toNat (instField w)) :=
  match ho : (opField w).toNat with
  | 0 => answers_single rfl hu ho fun _ => rfl
  | n + 1 => answers_unlistedOp (n := n) hu (ho.trans (Nat.add_comm n 1))

end tables

/-- Every answer of the decoder is justified: by the unit, then by the unit's table. -/
theorem answers_decode (w : CmdWord) : Answers w (decode w) := by
  unfold decode
  match hu : (unitField w).toNat with
  | 0x0 => exact answers_decodeOsc hu
  | 0x1 => exact answers_decodeGf hu
  | 0x2 => exact answers_decodeQd hu
  | 0x3 => exact answers_decodeKp hu
  | 0x4 => exact answers_decodeAdsr hu
  | 0x5 => exact answers_decodeOp hu
  | 0x6 => exact answers_decodeMix hu
  | 0x7 => exact answers_decodeI2s hu
  | 0xF => exact answers_decodeSys hu
  | 0x8 | 0x9 | 0xA | 0xB | 0xC | 0xD | 0xE =>
    show 0x8 ≤ _ ∧ _ ≤ 0xE
    omega
  | n + 0x10 => exact absurd (unitField w).isLt (by omega)

/-- The decoder reads a command's word as that command (R98). -/
theorem decode_encode (i : Instr) : decode (encode i) = .ok i := by
  cases i <;> simp only [encode, decode, unitField_word, opField_word, instField_word] <;> rfl

/-- Settles O1: the decoder answers a command only for that command's word, and for that word it does. -/
theorem decodeInvertsEncode : Obligations.DecodeInvertsEncode := fun i w => by
  constructor
  · intro hdec
    have hanswer := answers_decode w
    rwa [hdec] at hanswer
  · rintro rfl
    exact decode_encode i

/-! ### Which words stand for no command -/

/-- A command's word has the command's inst field (R94). -/
theorem instField_encode (i : Instr) : instField (encode i) = i.inst := by
  cases i <;> exact instField_word _ _ _

/-- The operation of a command's word is one of those listed for its unit (R98). -/
theorem opField_encode_lt (i : Instr) : (opField (encode i)).toNat < listedOps (unitField (encode i)).toNat := by
  cases i <;> simp only [encode, unitField_word, opField_word] <;> decide

/-- The unit of a command's word has as many instances as the command's unit (R93). -/
theorem instances_unitField_encode (c : Config) (i : Instr) :
    instances c (unitField (encode i)).toNat = i.unitCount c := by
  cases i <;> simp only [encode, unitField_word] <;> rfl

/-- A command's word is illegal just when the unit it selects does not exist (R94, R99). -/
theorem illegalWord_encode {c : Config} {i : Instr} : illegalWord c (encode i) ↔ ¬ i.wellFormed c = true := by
  have hlisted := opField_encode_lt i
  rw [illegalWord_iff_fields, instances_unitField_encode, instField_encode, Instr.wellFormed, decide_eq_true_iff,
    Nat.not_lt]
  constructor
  · rintro (⟨hlo, hhi⟩ | hop | hinst)
    · rw [listedOps_reserved hlo hhi] at hlisted
      exact absurd hlisted (Nat.not_lt_zero _)
    · exact absurd hlisted (Nat.not_lt.mpr hop)
    · exact hinst
  · exact fun hinst => .inr (.inr hinst)

/-- Settles O2: a word that decodes is the word of one command, legal if the unit it selects exists; for any other
word the decoder's reason is one of R99's. -/
theorem illegalWordsAreThoseListed : Obligations.IllegalWordsAreThoseListed := fun c w => by
  have hanswer := answers_decode w
  cases hdec : decode w with
  | ok i =>
    rw [(decodeInvertsEncode i w).mp hdec, illegalWord_encode]
    simp
  | error e =>
    rw [hdec] at hanswer
    have hill : illegalWord c w := DecodeError.AppliesTo.illegalWord hanswer c
    simp [hill]

/-- Settles O3: each word is the command's word of R98. -/
theorem wordsOfEveryUnitDecode : Obligations.WordsOfEveryUnitDecode :=
  have hword {i : Instr} {w : CmdWord} := (decodeInvertsEncode i w).mpr
  ⟨hword rfl, hword rfl, hword rfl, hword rfl, hword rfl, hword rfl, hword rfl, hword rfl, hword rfl⟩

end Sys2Proof
end

section
/-! A turn of the host with a decoded command (R90; O4), the event layout (R96; O34) and KP.GET_EVENT (R253; O32). -/

namespace Sys2Proof.Machine

/-! ### A host turn -/

/-- A word that decodes is performed as its command. -/
theorem perform_of_decode {s : State} {i : Instr} (hdec : decode s.cmd = .ok i) : s.perform = exec i s := by
  simp only [State.perform, hdec]

/-- A host turn goes on with the command on the port (R90). -/
theorem hostTurn_of_busy {s : State} (hbusy : s.phase ≠ .idle) : s.hostTurn = s.perform := by
  cases hphase : s.phase with
  | idle => exact absurd hphase hbusy
  | active | second => simp only [State.hostTurn, hphase]

theorem perform_issue_of_decode {s : State} {c : Command} {i : Instr} (rest : List Command)
    (hdec : decode c.cmd = .ok i) : (s.issue c rest).perform = exec i (s.issue c rest) :=
  perform_of_decode (s := s.issue c rest) hdec

/-- Settles O4: the turn issues the next command or goes on with the one on the port, and performs it as decoded. -/
theorem hostTurnRunsDecodedCommand : Obligations.HostTurnRunsDecodedCommand := fun s ts hts => by
  rw [step_host hts]
  constructor
  · intro c rest i hidle htodo hdec
    exact (hostTurn_idle_cons (s := { s with turns := ts }) hidle htodo).trans (perform_issue_of_decode rest hdec)
  · intro i hbusy hdec
    exact (hostTurn_of_busy (s := { s with turns := ts }) hbusy).trans
      (perform_of_decode (s := { s with turns := ts }) hdec)

/-! ### The event layout -/

theorem EventKind.code_lt (k : EventKind) : k.code < 2 := by cases k <;> decide

/-- The number an event is on a bus: `valid` in bit 0, `kind` in bit 1, the button in bits 7:4 (R96). -/
def Event.number (e : Event) : Nat := e.valid.toNat + 2 * e.kind.code + 16 * e.button.toNat

theorem eventResponse_eq (e : Event) : eventResponse e = BitVec.ofNat 64 e.number := by
  have hvalid := e.valid.toNat_lt
  have hkind := e.kind.code_lt
  have hbutton := e.button.isLt
  simp only [eventResponse, layout, field, Event.number, List.sum_cons, List.sum_nil]
  congr 1
  omega

theorem eventResponse_toNat (e : Event) : (eventResponse e).toNat = e.number := by
  have hvalid := e.valid.toNat_lt
  have hkind := e.kind.code_lt
  rw [eventResponse_eq, BitVec.toNat_ofNat]
  exact Nat.mod_eq_of_lt (by unfold Event.number; omega)

theorem Event.number_testBit_zero (e : Event) : e.number.testBit 0 = e.valid := by
  have hodd : e.number % 2 = e.valid.toNat := by
    have hvalid := e.valid.toNat_lt
    unfold Event.number
    omega
  rw [Nat.testBit_zero, hodd]
  cases e.valid <;> rfl

theorem Event.number_testBit_one (e : Event) : e.number.testBit 1 = decide (e.kind = .released) := by
  have hbit : e.number / 2 ^ 1 % 2 = e.kind.code := by
    have hvalid := e.valid.toNat_lt
    have hkind := e.kind.code_lt
    unfold Event.number
    omega
  rw [Nat.testBit_eq_decide_div_mod_eq, hbit]
  cases e.kind <;> rfl

theorem Event.number_button (e : Event) : e.number / 2 ^ 4 % 2 ^ 4 = e.button.toNat := by
  have hvalid := e.valid.toNat_lt
  have hkind := e.kind.code_lt
  unfold Event.number
  omega

/-- Settles O34, field by field: no field reaches into another's bits. -/
theorem eventLayoutRoundTrips : Obligations.EventLayoutRoundTrips := fun e => by
  have hbit (k : Nat) : (eventResponse e).getLsbD k = e.number.testBit k := by
    rw [BitVec.getLsbD, eventResponse_toNat]
  have hvalid : (eventResponse e).getLsbD 0 = e.valid := (hbit 0).trans e.number_testBit_zero
  have hkind : (if (eventResponse e).getLsbD 1 then EventKind.released else .pressed) = e.kind := by
    rw [hbit, e.number_testBit_one]
    cases e.kind <;> rfl
  have hbutton : (eventResponse e).extractLsb' 4 4 = e.button := BitVec.eq_of_toNat_eq <| by
    rw [BitVec.extractLsb'_toNat, eventResponse_toNat, Nat.shiftRight_eq_div_pow, e.number_button]
  rw [eventOperand, hvalid, hkind, hbutton]

/-! ### KP.GET_EVENT -/

theorem Keypad.event_of_unchanged {k : Keypad} (h : k.changed = false) : k.event = none := by
  simp [Keypad.event, h]

/-- The newest pressed button is surfaced first. -/
theorem Keypad.event_of_stack {k : Keypad} {older : List Button} {b : Button} (h : k.changed = true)
    (hstack : k.stack = older ++ [b]) : k.event = some ⟨true, .pressed, b⟩ := by
  simp [Keypad.event, h, hstack]

/-- With nothing pressed, the last released button is surfaced if there is one. -/
theorem Keypad.event_of_empty_stack {k : Keypad} (h : k.changed = true) (hstack : k.stack = []) :
    k.event = k.lastRel.map fun b => ⟨true, .released, b⟩ := by
  simp [Keypad.event, h, hstack]

section getEvent
variable {s : State}

/-- A surfaced event is answered with the stamp, and `changed` is cleared. -/
theorem exec_kpGetEvent_some {e : Event} (hrun : s.halted = false) (h : s.kp.event = some e) :
    exec .kpGetEvent s =
      .next ((s.setKp { s.kp with changed := false }).respond s.kp.stamp (BitVec.ofNat 64 e.number)) :=
  (unlessHalted_of_running hrun _).trans (by rw [← eventResponse_eq, h])

/-- With no event to surface the answer is 0, and `changed` is cleared all the same. -/
theorem exec_kpGetEvent_none (hrun : s.halted = false) (h : s.kp.event = none) :
    exec .kpGetEvent s = .next (s.setKp { s.kp with changed := false }).done :=
  (unlessHalted_of_running hrun _).trans (by rw [h])

/-- Clearing a flag that is already clear is no change. -/
theorem setKp_unchanged (h : s.kp.changed = false) : s.setKp { s.kp with changed := false } = s := by
  rw [← h]
  rfl

end getEvent

/-- Settles O32: one case for each event the scanner can surface. -/
theorem kpGetEventSurfacesOneEvent : Obligations.KpGetEventSurfacesOneEvent := fun s hrun => by
  refine ⟨decode_encode .kpGetEvent, ?unchanged, ?pressed, ?released, ?nothing⟩
  case unchanged =>
    intro hchanged
    rw [exec_kpGetEvent_none hrun (Keypad.event_of_unchanged hchanged), setKp_unchanged hchanged]
    rfl
  case pressed =>
    intro older b hchanged hstack
    exact exec_kpGetEvent_some (e := ⟨true, .pressed, b⟩) hrun (Keypad.event_of_stack hchanged hstack)
  case released =>
    intro b hchanged hstack hlast
    exact exec_kpGetEvent_some (e := ⟨true, .released, b⟩) hrun
      ((Keypad.event_of_empty_stack hchanged hstack).trans (by rw [hlast]; rfl))
  case nothing =>
    intro hchanged hstack hlast
    exact exec_kpGetEvent_none hrun ((Keypad.event_of_empty_stack hchanged hstack).trans (by rw [hlast]; rfl))

end Sys2Proof.Machine
end

section
/-! The oscillator's commands (40_oscillator.md; O16 to O20) and the register read-backs (R97; O23).
First what the model's conversions are on the operands the commands take, then one rule per command. -/

namespace Sys2Proof.Machine

/-! ### Conversions and operands -/

/-- Wrapping the sum of two patterns is their sum (R11). -/
theorem wrap32_add_toNat (x y : Word32) : wrap32 ((x.toNat : Int) + y.toNat) = x + y := by
  rw [wrap32, BitVec.ofInt_add, BitVec.ofInt_natCast, BitVec.ofInt_natCast, BitVec.ofNat_toNat, BitVec.ofNat_toNat,
    BitVec.setWidth_eq, BitVec.setWidth_eq]

theorem wordOperand_toNat (x : Bus) : (wordOperand x).toNat = x.toNat % 2 ^ 32 := by
  rw [wordOperand, BitVec.extractLsb'_toNat, Nat.shiftRight_zero]

theorem wordOperand_eq_ofNat (x : Bus) : wordOperand x = BitVec.ofNat 32 x.toNat :=
  BitVec.eq_of_toNat_eq (by rw [wordOperand_toNat, BitVec.toNat_ofNat])

/-- `asr` is the floor of the quotient (R11). -/
theorem asr_eq_fdiv (v : Int) (n : Nat) : asr v n = Int.fdiv v (2 ^ n) :=
  (Int.fdiv_eq_ediv_of_nonneg v (by positivity)).symm

/-- A value that fits its field is only shifted (R97). -/
theorem field_of_lt {hi lo v : Nat} (h : v < 2 ^ (hi + 1 - lo)) : field hi lo v = 2 ^ lo * v := by
  rw [field, Nat.mod_eq_of_lt h, Nat.mul_comm]

theorem layout_pair (x y : Nat) : layout [x, y] = BitVec.ofNat 64 (x + y) := rfl

/-- Two words side by side on a bus, as the number they are. -/
theorem append_eq_ofNat (hi lo : Word32) : hi ++ lo = BitVec.ofNat 64 (lo.toNat + 2 ^ 32 * hi.toNat) := by
  apply BitVec.eq_of_toNat_eq
  have hlo := lo.isLt
  have hhi := hi.isLt
  rw [BitVec.toNat_append, ← Nat.shiftLeft_add_eq_or_of_lt hlo, Nat.shiftLeft_eq, BitVec.toNat_ofNat,
    Nat.mod_eq_of_lt (by omega)]
  omega

/-! ### The oscillator's registers -/

@[simp] theorem Osc.tick_delta (o : Osc) : o.tick.delta = o.delta := rfl

@[simp] theorem Osc.tick_phase (o : Osc) : o.tick.phase = o.phase + o.delta := wrap32_add_toNat _ _

theorem freqDelta_wordOperand (c : Config) (x : Bus) :
    freqDelta c (wordOperand x) = BitVec.ofNat 32 ((x.toNat % 2 ^ 32) * 2 ^ (32 - c.ffb) / c.rate) := by
  rw [freqDelta, wrap32, BitVec.ofInt_natCast, wordOperand_toNat]

/-- The phase after a modulated tick (R203). -/
theorem Osc.tickMod_phase (c : Config) (o : Osc) (x : Int) (ratio : Nat) :
    (o.tickMod c x ratio).phase =
      BitVec.ofInt 32 (o.phase.toNat + Int.fdiv (o.delta.toNat * x * ratio) (2 ^ c.modScale) + o.delta.toNat) := by
  rw [← asr_eq_fdiv]
  rfl

/-- SAW reads the sample whose pattern is the top W bits of the phase (R204). -/
theorem saw_isSampleOf {c : Config} (hpos : 0 < c.w) (hle : c.w ≤ 32) (phase : Word32) :
    IsSampleOf c (phase.toNat / 2 ^ (32 - c.w)) (saw c phase) := by
  have hlt : phase.toNat / 2 ^ (32 - c.w) < 2 ^ c.w := by
    rw [Nat.div_lt_iff_lt_mul (by positivity), ← pow_add, Nat.add_sub_cancel' hle]
    exact phase.isLt
  exact ⟨sN_range hpos hlt, sN_congr⟩

/-- SQUARE in terms of the half of the cycle the phase is in (R205). -/
theorem square_eq (c : Config) (o : Osc) :
    square c o = if o.delta = 0 then 0
      else if o.phase.toNat < 2 ^ 31 then 2 ^ (c.w - 1) - 1 else -(2 ^ (c.w - 1)) := by
  have hmsb : o.phase.msb = true ↔ ¬ o.phase.toNat < 2 ^ 31 := by
    rw [BitVec.msb_eq_decide, decide_eq_true_iff, Nat.not_lt]
  simp only [square, hmsb, ite_not]
  rfl

theorem oscResponse_eq (o : Osc) : oscResponse o = o.delta ++ o.phase := by
  rw [oscResponse, layout_pair, field_of_lt o.phase.isLt, field_of_lt o.delta.isLt, append_eq_ofNat, pow_zero,
    Nat.one_mul]

/-- A state code takes three bits (R39). -/
theorem EnvState.code_lt (st : EnvState) : st.code < 2 ^ 3 := by cases st <;> simp [EnvState.code]

/-- The operator's second response word: the envelope below its state's code (R97, R296). -/
theorem operatorResponse_eq {env : Nat} (henv : env < 2 ^ 32) (st : EnvState) :
    layout [field 31 0 env, field 34 32 st.code] = BitVec.ofNat 32 st.code ++ BitVec.ofNat 32 env := by
  have hcode := st.code_lt
  rw [layout_pair, field_of_lt henv, field_of_lt hcode, append_eq_ofNat, BitVec.toNat_ofNat, BitVec.toNat_ofNat,
    Nat.mod_eq_of_lt henv, Nat.mod_eq_of_lt (by omega), pow_zero, Nat.one_mul]

/-! ### One rule per command -/

section commands
variable {s : State} {i : Inst}

theorem exec_oscTick (hrun : s.halted = false) (hi : i.toNat < s.cfg.nOsc) :
    exec (.oscTick i) s = .next (s.setOsc i (s.oscAt i).tick).done := onInstance_of_legal hrun hi _

theorem exec_oscSetFreq (hrun : s.halted = false) (hi : i.toNat < s.cfg.nOsc) :
    exec (.oscSetFreq i) s =
      .next (s.setOsc i ⟨(s.oscAt i).phase, freqDelta s.cfg (wordOperand s.a)⟩).done := onInstance_of_legal hrun hi _

theorem exec_oscSetDelta (hrun : s.halted = false) (hi : i.toNat < s.cfg.nOsc) :
    exec (.oscSetDelta i) s = .next (s.setOsc i ⟨(s.oscAt i).phase, wordOperand s.a⟩).done :=
  onInstance_of_legal hrun hi _

theorem exec_oscTickMod (hrun : s.halted = false) (hi : i.toNat < s.cfg.nOsc) :
    exec (.oscTickMod i) s = .next (s.setOsc i
      ((s.oscAt i).tickMod s.cfg (sampleOperand s.cfg s.a) (wordOperand s.b).toNat)).done :=
  onInstance_of_legal hrun hi _

theorem exec_oscSaw (hrun : s.halted = false) (hi : i.toNat < s.cfg.nOsc) :
    exec (.oscSaw i) s = .next (s.respond (BitVec.ofInt 64 (saw s.cfg (s.oscAt i).phase)) 0) :=
  onInstance_of_legal hrun hi _

theorem exec_oscSquare (hrun : s.halted = false) (hi : i.toNat < s.cfg.nOsc) :
    exec (.oscSquare i) s = .next (s.respond (BitVec.ofInt 64 (square s.cfg (s.oscAt i))) 0) :=
  onInstance_of_legal hrun hi _

theorem exec_oscSine (hrun : s.halted = false) (hi : i.toNat < s.cfg.nOsc) :
    exec (.oscSine i) s = .next (s.respond (BitVec.ofInt 64 (sine s.cfg (s.oscAt i).phase)) 0) :=
  onInstance_of_legal hrun hi _

theorem exec_oscRead (hrun : s.halted = false) (hi : i.toNat < s.cfg.nOsc) :
    exec (.oscRead i) s = .next (s.respond ((s.oscAt i).delta ++ (s.oscAt i).phase) 0) := by
  rw [← oscResponse_eq]
  exact onInstance_of_legal hrun hi _

theorem exec_adsrRead (hrun : s.halted = false) (hi : i.toNat < s.cfg.nAdsr) :
    exec (.adsrRead i) s =
      .next (s.respond (BitVec.ofNat 64 (s.adsrAt i).env) (BitVec.ofNat 64 (s.adsrAt i).st.code)) :=
  onInstance_of_legal hrun hi _

theorem exec_opRead (hrun : s.halted = false) (hi : i.toNat < s.cfg.nOp) (henv : (s.opAt i).adsr.env < 2 ^ 32) :
    exec (.opRead i) s = .next (s.respond ((s.opAt i).osc.delta ++ (s.opAt i).osc.phase)
      (BitVec.ofNat 32 (s.opAt i).adsr.st.code ++ BitVec.ofNat 32 (s.opAt i).adsr.env)) := by
  rw [← oscResponse_eq, ← operatorResponse_eq henv]
  exact onInstance_of_legal hrun hi _

end commands

/-! ### The statements -/

/-- Settles O16: wrapping the sum is addition of 32-bit words. -/
theorem oscTickAddsDelta : Obligations.OscTickAddsDelta := fun s i hrun hi => by
  refine ⟨decode_encode (.oscTick i), ?_⟩
  rw [exec_oscTick hrun hi, Osc.tick, wrap32_add_toNat]
  rfl

/-- Settles O17. -/
theorem oscSetLoadsDelta : Obligations.OscSetLoadsDelta := fun s i hrun hi => by
  refine ⟨decode_encode (.oscSetFreq i), ?_, decode_encode (.oscSetDelta i), ?_⟩
  · rw [exec_oscSetFreq hrun hi, freqDelta_wordOperand]
    rfl
  · rw [exec_oscSetDelta hrun hi, wordOperand_eq_ofNat]
    rfl

/-- Settles O18: the sample operand is the one sample with the pattern in A, and the shift a floor division. -/
theorem oscTickModPerturbsPhase : Obligations.OscTickModPerturbsPhase := fun s i x hrun hi hw hx => by
  refine ⟨decode_encode (.oscTickMod i), ?_⟩
  rw [exec_oscTickMod hrun hi, sampleOperand_unique hw hx, wordOperand_toNat, ← Osc.tickMod_phase]
  rfl

/-- Settles O19. -/
theorem oscSawReadsTopBits : Obligations.OscSawReadsTopBits := fun s i hrun hi hlegal => by
  have hle : s.cfg.w ≤ 32 := by
    have := hlegal.w_cases
    omega
  exact ⟨decode_encode (.oscSaw i), _, saw_isSampleOf hlegal.w_pos hle _, exec_oscSaw hrun hi⟩

/-- Settles O20: bit 31 of the phase tells the half of the cycle. -/
theorem oscSquareFollowsTopBit : Obligations.OscSquareFollowsTopBit := fun s i hrun hi => by
  refine ⟨decode_encode (.oscSquare i), ?_⟩
  rw [exec_oscSquare hrun hi, square_eq]
  rfl

/-- Settles O23: no field of a response reaches into another's bits. -/
theorem registerReadBacks : Obligations.RegisterReadBacks := by
  refine ⟨⟨rfl, fun _ _ _ => rfl, fun _ _ => rfl, rfl, fun _ _ _ => rfl⟩, fun s i hrun => ⟨?osc, ?adsr, ?op⟩⟩
  case osc => exact fun hi => ⟨decode_encode (.oscRead i), exec_oscRead hrun hi⟩
  case adsr => exact fun hi => ⟨decode_encode (.adsrRead i), exec_adsrRead hrun hi⟩
  case op => exact fun hi henv => ⟨decode_encode (.opRead i), exec_opRead hrun hi henv⟩

end Sys2Proof.Machine
end

section
/-! The sine table's interpolation (R206, R209; O21, O25). A phase is read modulo the table's length, so its wrap is an
interval boundary like any other; and where one interval ends with the next one's first sample, the samples of two
adjacent phases are two adjacent points of one interpolation. -/

namespace Sys2Proof

/-- The intervals of a legal sine table fill the cycle (R206). -/
theorem Config.Legal.l_mul_span {c : Config} (h : c.Legal) : c.l * c.span = 2 ^ 32 := by
  obtain ⟨-, k, hk, hl⟩ := h.sineTable_size
  rw [Config.span, hl]
  exact Nat.mul_div_cancel' (pow_dvd_pow 2 (by omega))

theorem Config.Legal.span_pos {c : Config} (h : c.Legal) : 0 < c.span :=
  Nat.pos_of_ne_zero fun h0 => by simpa [h0] using h.l_mul_span

end Sys2Proof

namespace Sys2Proof.Machine

/-! ### Table entries -/

/-- Entries are read modulo the table's length. -/
theorem sineEntry_mod (c : Config) (i : Nat) : sineEntry c (i % c.l) = sineEntry c i := by
  rw [sineEntry, Nat.mod_mod, sineEntry]

theorem sineEntry_mod_add_one (c : Config) (i : Nat) : sineEntry c (i % c.l + 1) = sineEntry c (i + 1) := by
  rw [sineEntry, Nat.mod_add_mod, sineEntry]

theorem sineEntry_of_getElem? {c : Config} {i : Nat} {y : Int} (h : c.sineTable[i % c.l]? = some y) :
    sineEntry c i = y := by
  rw [sineEntry, List.getD_eq_getElem?_getD, h, Option.getD_some]

/-- Under a legal configuration a phase lies in one of the `L` intervals. -/
theorem phase_div_span_lt {c : Config} (h : c.Legal) (phase : Word32) : phase.toNat / c.span < c.l := by
  rw [Nat.div_lt_iff_lt_mul h.span_pos, h.l_mul_span]
  exact phase.isLt

/-- The sample at a phase given as any number, which the phase register holds modulo 2^32. -/
theorem sine_ofNat {c : Config} (h : c.Legal) (m : Nat) :
    sine c (BitVec.ofNat 32 m) =
      interpolate (m % c.span) c.span (sineEntry c (m / c.span)) (sineEntry c (m / c.span + 1)) := by
  rw [sine, BitVec.toNat_ofNat, ← h.l_mul_span, Nat.mod_mul_left_mod, Nat.mod_mul_left_div_self, sineEntry_mod,
    sineEntry_mod_add_one]

/-- Settles O21: the quotient and the remainder of the phase by the interval's width are the interval and the place in
it. -/
theorem oscSineInterpolatesTable : Obligations.OscSineInterpolatesTable :=
  fun s i index y0 y1 hrun hi hlegal hindex h0 h1 => by
    have hle : (s.oscAt i).phase.toNat % s.cfg.span ≤ s.cfg.span := (Nat.mod_lt _ hlegal.span_pos).le
    have hoffset : (s.oscAt i).phase.toNat - index * (2 ^ 32 / s.cfg.l) = (s.oscAt i).phase.toNat % s.cfg.span := by
      rw [hindex, Nat.mul_comm]
      exact (Nat.mod_eq_sub_mul_div ..).symm
    have hentry0 : sineEntry s.cfg index = y0 :=
      sineEntry_of_getElem? (by rwa [Nat.mod_eq_of_lt (hindex ▸ phase_div_span_lt hlegal _)])
    have hsine : sine s.cfg (s.oscAt i).phase =
        interpolate ((s.oscAt i).phase.toNat % s.cfg.span) s.cfg.span y0 y1 := by
      rw [← hentry0, ← sineEntry_of_getElem? h1, hindex]
      rfl
    refine ⟨decode_encode (.oscSine i), interpolate _ _ y0 y1, ?_, (interpolate_between hle y0 y1).1,
      (interpolate_between hle y0 y1).2, ?_⟩
    · rw [hoffset]
      rfl
    · rw [exec_oscSine hrun hi, hsine]
      rfl

/-! ### Continuity -/

/-- The next quotient is at most `ceil(d / n)` further. -/
theorem ediv_step {n : Int} (hn : 0 < n) (a : Int) {d : Int} (hd : 0 ≤ d) :
    a / n ≤ (a + d) / n ∧ (a + d) / n ≤ a / n + (d + n - 1) / n := by
  refine ⟨Int.ediv_le_ediv hn (by omega), Int.lt_add_one_iff.mp (Int.ediv_lt_of_lt_mul hn ?_)⟩
  have ha := Int.lt_ediv_add_one_mul_self a hn
  have hc := Int.lt_ediv_add_one_mul_self (d + n - 1) hn
  linarith

/-- Adjacent points of an interpolation over `n` places differ by at most `ceil(|d| / n)` (R209). -/
theorem abs_tdiv_step_le {n : Nat} (hn : 0 < n) (x : Nat) (d : Int) :
    |Int.tdiv ((x + 1 : Nat) * d) n - Int.tdiv (x * d) n| ≤ (|d| + n - 1) / n := by
  have hn' : (0 : Int) < n := Int.natCast_pos.mpr hn
  have hnonneg {e : Int} (he : 0 ≤ e) :
      |Int.tdiv ((x + 1 : Nat) * e) n - Int.tdiv (x * e) n| ≤ (e + n - 1) / n := by
    obtain ⟨hlo, hhi⟩ := ediv_step hn' (x * e) he
    rw [Int.tdiv_eq_ediv_of_nonneg (by positivity), Int.tdiv_eq_ediv_of_nonneg (by positivity), abs_le]
    push_cast
    rw [add_one_mul]
    omega
  rcases le_total 0 d with hd | hd
  · rw [abs_of_nonneg hd]
    exact hnonneg hd
  · have hneg := hnonneg (Int.neg_nonneg.mpr hd)
    rwa [mul_neg, mul_neg, Int.neg_tdiv, Int.neg_tdiv, ← neg_sub', abs_neg, ← abs_of_nonpos hd] at hneg

theorem interpolate_end {n : Nat} (hn : 0 < n) (y0 y1 : Int) : interpolate n n y0 y1 = y1 := by
  rw [interpolate, Int.mul_tdiv_cancel_left _ (by omega)]
  omega

/-- The next point of a piecewise interpolation is the next point of the same piece: a piece ends in the first point of
the one after it. -/
theorem interpolate_next {n : Nat} (hn : 0 < n) (y : Nat → Int) (m : Nat) :
    interpolate ((m + 1) % n) n (y ((m + 1) / n)) (y ((m + 1) / n + 1)) =
      interpolate (m % n + 1) n (y (m / n)) (y (m / n + 1)) := by
  have hlt := Nat.mod_lt m hn
  rcases Nat.lt_or_ge (m % n + 1) n with hin | hend
  · have hmod : (m + 1) % n = m % n + 1 := by rw [← Nat.mod_add_mod, Nat.mod_eq_of_lt hin]
    rw [hmod, Nat.succ_div_of_mod_ne_zero (by omega)]
  · have hlast : m % n + 1 = n := by omega
    have hmod : (m + 1) % n = 0 := by rw [← Nat.mod_add_mod, hlast, Nat.mod_self]
    rw [hmod, hlast, Nat.succ_div_of_mod_eq_zero hmod, interpolate_end hn]
    simp [interpolate]

/-- The samples of adjacent phases are adjacent points of the interpolation in the first one's interval (R209). -/
theorem abs_sine_succ_sub_le {c : Config} (h : c.Legal) (p : Word32) :
    |sine c (p + 1) - sine c p| ≤
      (|sineEntry c (p.toNat / c.span + 1) - sineEntry c (p.toNat / c.span)| + c.span - 1) / c.span := by
  have hnext : p + 1 = BitVec.ofNat 32 (p.toNat + 1) := by simp [BitVec.ofNat_add]
  rw [hnext, sine_ofNat h, interpolate_next h.span_pos, sine, interpolate, interpolate, add_sub_add_left_eq_sub]
  exact abs_tdiv_step_le h.span_pos _ _

/-- A step not above the interval's width gives a difference of at most 1. -/
theorem ceil_ediv_le_one {n d : Int} (hn : 0 < n) (hd : d ≤ n) : (d + n - 1) / n ≤ 1 :=
  Int.lt_add_one_iff.mp (Int.ediv_lt_of_lt_mul hn (by linarith))

/-- Settles O25: the step of the first phase's interval alone bounds the difference. -/
theorem sineIsContinuous : Obligations.SineIsContinuous := fun c p stepAt hlegal hstep => by
  have hspan : (0 : Int) < c.span := Int.natCast_pos.mpr hlegal.span_pos
  have hle : |sine c (p + 1) - sine c p| ≤ (stepAt (p.toNat / c.span) + c.span - 1) / c.span := by
    rw [hstep]
    exact abs_sine_succ_sub_le hlegal p
  constructor
  · refine hle.trans (Int.ediv_le_ediv hspan ?_)
    have hmax := le_max_left (stepAt (p.toNat / c.span)) (stepAt ((p + 1).toNat / c.span))
    omega
  · exact fun hall => hle.trans (ceil_ediv_le_one hspan (hall _ (phase_div_span_lt hlegal p)))

end Sys2Proof.Machine
end

section
/-! Runs in which `OSC[i]` is only ticked (R200, R208; O24). What a command may do to the oscillators is said once, by
the oscillator it may write; the run's invariant `OnlyTicks` then makes every OSC.TICK of the host's list one tick of
the register and everything else none, and `n` ticks are `n` times the delta. -/

namespace Sys2Proof

/-- The oscillator whose registers a command may write (R33). -/
def Instr.oscWritten : Instr → Option Inst
  | .oscTick i | .oscSetFreq i | .oscSetDelta i | .oscTickMod i => some i
  | _ => none

end Sys2Proof

namespace Sys2Proof.Machine

theorem ticksOsc_iff {i : Inst} {c : Command} : ticksOsc i c = true ↔ decode c.cmd = .ok (.oscTick i) := by
  unfold ticksOsc
  split
  · next x hdec => simp [hdec]
  · next e hdec => simp [hdec]

theorem writesOsc_of_oscWritten {i : Inst} {c : Command} {x : Instr} (hdec : decode c.cmd = .ok x)
    (hx : x.oscWritten = some i) : writesOsc i c = true := by
  cases x with
  | oscTick k | oscSetFreq k | oscSetDelta k | oscTickMod k =>
    obtain rfl : k = i := Option.some.inj hx
    simp [writesOsc, hdec]
  | _ => cases hx

/-! ### What a command may do to the oscillators -/

/-- No next state the outcome gives has other oscillator registers. -/
def KeepsOsc (s : State) (o : Out) : Prop := ∀ t, o = .next t → t.osc = s.osc

section commands
variable {s t : State}

theorem keepsOsc_next (h : t.osc = s.osc) : KeepsOsc s (.next t) := fun _ e => by
  cases e
  exact h

theorem keepsOsc_respond {r0 r1 : Bus} (h : t.osc = s.osc) : KeepsOsc s (.next (t.respond r0 r1)) :=
  keepsOsc_next h

theorem keepsOsc_done (h : t.osc = s.osc) : KeepsOsc s (.next t.done) := keepsOsc_next h

theorem unlessHalted_keepsOsc {rule : Out} (hrule : KeepsOsc s rule) : KeepsOsc s (unlessHalted s rule) :=
  fun u hu => by
    rcases unlessHalted_next hu with ⟨-, rfl⟩ | ⟨-, hu⟩
    · rfl
    · exact hrule u hu

theorem onInstance_keepsOsc {count : Nat} {i : Inst} {rule : Out} (hrule : KeepsOsc s rule) :
    KeepsOsc s (onInstance count i s rule) := fun u hu => by
  rcases onInstance_next hu with ⟨-, rfl⟩ | ⟨-, -, rfl⟩ | ⟨-, -, hu⟩
  · rfl
  · rfl
  · exact hrule u hu

theorem completeOr_map_keepsOsc {α : Type} {r : Except Fault α} {f : α → State} (hf : ∀ x, (f x).osc = s.osc) :
    KeepsOsc s (completeOr (r.map f)) := fun u hu => by
  obtain ⟨v, hv, rfl⟩ := completeOr_next hu
  obtain ⟨x, -, rfl⟩ := map_eq_ok hv
  exact hf x

theorem monoPush_osc (s : State) (w : Word32) : (s.push w).afterMonoPush.osc = s.osc := by
  rw [State.afterMonoPush_osc, State.push_osc]

/-- A command that writes no oscillator leaves them all as they are. -/
theorem exec_keepsOsc {x : Instr} (hx : x.oscWritten = none) : KeepsOsc s (exec x s) := by
  cases x with
  | oscTick i | oscSetFreq i | oscSetDelta i | oscTickMod i => cases hx
  | oscSaw i | oscSquare i | oscSine i | oscRead i | gfRead i | qdRead i | adsrApply i | adsrRead i | opSaw i
  | opSquare i | opSine i | opRead i => exact onInstance_keepsOsc (keepsOsc_respond rfl)
  | kpRead | mixMix | i2sIsWritable | i2sStatus => exact unlessHalted_keepsOsc (keepsOsc_respond rfl)
  | sysStatus => exact keepsOsc_respond rfl
  | gfSample i => exact onInstance_keepsOsc (keepsOsc_respond (s.setGf_osc i _))
  | qdSample i => exact onInstance_keepsOsc (keepsOsc_respond (s.setQd_osc i _))
  | opSetInput i => exact onInstance_keepsOsc (keepsOsc_done (s.setOp_osc i _))
  | adsrFeed i | adsrTick i => exact onInstance_keepsOsc (completeOr_map_keepsOsc (s.setAdsr_osc i))
  | opTick i | opFeedEvent i => exact onInstance_keepsOsc (completeOr_map_keepsOsc (s.setOp_osc i))
  | kpScanStep => exact unlessHalted_keepsOsc (keepsOsc_done (s.setKp_osc _))
  | kpGetEvent => exact unlessHalted_keepsOsc (keepsOsc_next (by split <;> rfl))
  | i2sWrite => exact unlessHalted_keepsOsc (keepsOsc_done (s.push_osc _))
  | i2sWriteBlocking => exact unlessHalted_keepsOsc (keepsOsc_next (by split; exacts [s.push_osc _, rfl]))
  | i2sWriteMono => exact unlessHalted_keepsOsc (keepsOsc_next (monoPush_osc s _))
  | i2sWriteMonoBlocking => exact unlessHalted_keepsOsc (keepsOsc_next (by split; exacts [monoPush_osc s _, rfl]))

theorem onInstance_setOsc_next {count : Nat} {j : Inst} {o : Osc}
    (h : onInstance count j s (.next (s.setOsc j o).done) = .next t) :
    t.phase = .idle ∧ (t.osc = s.osc ∨ t.osc = s.osc.set j.toNat o) := by
  rcases onInstance_next h with ⟨-, rfl⟩ | ⟨-, -, rfl⟩ | ⟨-, -, h⟩
  · exact ⟨rfl, .inl rfl⟩
  · exact ⟨rfl, .inl rfl⟩
  · cases h
    exact ⟨rfl, .inr rfl⟩

/-- A command that may write an oscillator completes at once and writes no other. -/
theorem exec_writesOneOsc {x : Instr} {j : Inst} (hx : x.oscWritten = some j) (h : exec x s = .next t) :
    t.phase = .idle ∧ (t.osc = s.osc ∨ ∃ o, t.osc = s.osc.set j.toNat o) := by
  cases x with
  | oscTick k | oscSetFreq k | oscSetDelta k | oscTickMod k =>
    obtain rfl : k = j := Option.some.inj hx
    obtain ⟨hphase, hosc⟩ := onInstance_setOsc_next h
    exact ⟨hphase, hosc.imp_right fun e => ⟨_, e⟩⟩
  | _ => cases hx

/-- Everything a command can do to the oscillators. -/
theorem exec_osc {x : Instr} (h : exec x s = .next t) :
    t.osc = s.osc ∨ ∃ j o, x.oscWritten = some j ∧ t.osc = s.osc.set j.toNat o := by
  cases hx : x.oscWritten with
  | none => exact .inl (exec_keepsOsc hx t h)
  | some j =>
    obtain ⟨-, hosc⟩ := exec_writesOneOsc hx h
    exact hosc.imp_right fun ⟨o, e⟩ => ⟨j, o, rfl, e⟩

theorem State.oscAt_of_osc_eq (h : t.osc = s.osc) (i : Inst) : t.oscAt i = s.oscAt i := by
  rw [State.oscAt, h, State.oscAt]

theorem exec_oscAt {x : Instr} {i : Inst} (hx : x.oscWritten ≠ some i) (h : exec x s = .next t) :
    t.oscAt i = s.oscAt i := by
  rcases exec_osc h with hosc | ⟨j, o, hj, hosc⟩
  · exact State.oscAt_of_osc_eq hosc i
  · have hne : i ≠ j := fun e => hx (e ▸ hj)
    exact (State.oscAt_of_osc_eq (s := s.setOsc j o) hosc i).trans (State.oscAt_setOsc_of_ne hne)

end commands

/-! ### One host step of the command on the port -/

/-- The word on the port stands for no command that may write `OSC[i]`. -/
def PortLeaves (i : Inst) (s : State) : Prop := ∀ x, decode s.cmd = .ok x → x.oscWritten ≠ some i

section perform
variable {s t : State} {i : Inst}

theorem perform_next (h : s.perform = .next t) :
    (∃ x, decode s.cmd = .ok x ∧ exec x s = .next t) ∨ t = s.rejectWord := by
  unfold State.perform at h
  split at h
  · next x hdec => exact .inl ⟨x, hdec, h⟩
  · cases h
    exact .inr rfl

theorem perform_osc_length (h : s.perform = .next t) : t.osc.length = s.osc.length := by
  rcases perform_next h with ⟨x, -, hexec⟩ | rfl
  · rcases exec_osc hexec with hosc | ⟨j, o, -, hosc⟩
    · rw [hosc]
    · rw [hosc, List.length_set]
  · rw [State.rejectWord_osc]

theorem perform_oscAt (hport : PortLeaves i s) (h : s.perform = .next t) : t.oscAt i = s.oscAt i := by
  rcases perform_next h with ⟨x, hdec, hexec⟩ | rfl
  · exact exec_oscAt (hport x hdec) hexec
  · exact State.oscAt_of_osc_eq s.rejectWord_osc i

/-- A command that has not completed is none that may write an oscillator. -/
theorem perform_portLeaves (h : s.perform = .next t) (hbusy : t.phase ≠ .idle) : PortLeaves i t := fun x hdec hx => by
  rw [(perform_framed s t h).cmd] at hdec
  rw [perform_of_decode hdec] at h
  exact hbusy (exec_writesOneOsc hx h).1

end perform

/-! ### The invariant of the run -/

/-- The block runs, `OSC[i]` exists, no reset is to come, and of the commands to come only OSC.TICK writes `OSC[i]`. -/
structure TicksAhead (i : Inst) (s : State) : Prop where
  running : s.halted = false
  exist : i.toNat < s.cfg.nOsc
  sized : s.osc.length = s.cfg.nOsc
  noReset : .reset ∉ s.turns
  todo : ∀ c ∈ s.todo, writesOsc i c = true → ticksOsc i c = true

/-- Besides, the command on the port, if any, does not write `OSC[i]`. -/
structure OnlyTicks (i : Inst) (s : State) : Prop extends TicksAhead i s where
  port : s.phase ≠ .idle → PortLeaves i s

/-- From `s` to `t`, `OSC[i]` made as many ticks as OSC.TICK commands left the host's list. -/
def Ticked (i : Inst) (s t : State) : Prop :=
  ∃ n, s.todo.countP (ticksOsc i) = t.todo.countP (ticksOsc i) + n ∧ t.oscAt i = Osc.tick^[n] (s.oscAt i)

section run
variable {s t u : State} {i : Inst}

theorem Ticked.of_untouched (htodo : t.todo = s.todo) (hosc : t.oscAt i = s.oscAt i) : Ticked i s t :=
  ⟨0, by rw [htodo, Nat.add_zero], hosc⟩

theorem Ticked.trans (h : Ticked i s u) (h' : Ticked i u t) : Ticked i s t := by
  obtain ⟨m, hm, hosc⟩ := h
  obtain ⟨n, hn, hosc'⟩ := h'
  exact ⟨n + m, by omega, by rw [hosc', hosc, Function.iterate_add_apply]⟩

theorem TicksAhead.issue {c : Command} {rest : List Command} (h : TicksAhead i s) (htodo : s.todo = c :: rest) :
    TicksAhead i (s.issue c rest) :=
  { h with todo := fun x hx => h.todo x (htodo ▸ List.mem_cons_of_mem c hx) }

theorem TicksAhead.perform (h : TicksAhead i s) (hperform : s.perform = .next t) : OnlyTicks i t := by
  have hframe := perform_framed s t hperform
  refine ⟨⟨?_, ?_, ?_, ?_, ?_⟩, perform_portLeaves hperform⟩
  · rw [hframe.halted]; exact h.running
  · rw [hframe.cfg]; exact h.exist
  · rw [perform_osc_length hperform, hframe.cfg]; exact h.sized
  · rw [hframe.turns]; exact h.noReset
  · rw [hframe.todo]; exact h.todo

theorem TicksAhead.perform_oscTick (h : TicksAhead i s) (hdec : decode s.cmd = .ok (.oscTick i))
    (hperform : s.perform = .next t) : t.oscAt i = (s.oscAt i).tick := by
  rw [perform_of_decode hdec, exec_oscTick h.running h.exist] at hperform
  cases hperform
  exact State.oscAt_setOsc_self (h.sized ▸ h.exist)

/-- The host's next command ticks `OSC[i]` if it is OSC.TICK on it, else leaves it. -/
theorem TicksAhead.ticked_issue {c : Command} {rest : List Command} (h : TicksAhead i s) (htodo : s.todo = c :: rest)
    (hperform : (s.issue c rest).perform = .next t) : Ticked i s t := by
  have hrest : t.todo = rest := (perform_framed _ t hperform).todo
  rw [Ticked, htodo, hrest]
  cases htick : ticksOsc i c with
  | true =>
    have hdec := ticksOsc_iff.mp htick
    exact ⟨1, List.countP_cons_of_pos htick, (h.issue htodo).perform_oscTick hdec hperform⟩
  | false =>
    have hleaves : PortLeaves i (s.issue c rest) := fun x hdec hx => by
      have := h.todo c (htodo ▸ List.mem_cons_self) (writesOsc_of_oscWritten hdec hx)
      simp [htick] at this
    exact ⟨0, List.countP_cons_of_neg (by simp [htick]), perform_oscAt (s := s.issue c rest) hleaves hperform⟩

theorem OnlyTicks.hostTurn (h : OnlyTicks i s) (hturn : s.hostTurn = .next t) : OnlyTicks i t ∧ Ticked i s t := by
  by_cases hidle : s.phase = .idle
  · cases htodo : s.todo with
    | nil =>
      cases (hostTurn_idle_nil hidle htodo).symm.trans hturn
      exact ⟨h, .of_untouched rfl rfl⟩
    | cons c rest =>
      rw [hostTurn_idle_cons hidle htodo] at hturn
      exact ⟨(h.issue htodo).perform hturn, h.ticked_issue htodo hturn⟩
  · rw [hostTurn_of_busy hidle] at hturn
    exact ⟨h.perform hturn,
      .of_untouched (perform_framed s t hturn).todo (perform_oscAt (h.port hidle) hturn)⟩

theorem OnlyTicks.sequencerTurn (h : OnlyTicks i s) : OnlyTicks i s.sequencerTurn ∧ Ticked i s s.sequencerTurn := by
  obtain ⟨q, v, hturn, -⟩ := sequencerTurn_changes s
  rw [hturn]
  exact ⟨{ h with }, .of_untouched rfl rfl⟩

theorem OnlyTicks.step (h : OnlyTicks i s) (hstep : step s = .next t) : OnlyTicks i t ∧ Ticked i s t := by
  have hrest {turn : Turn} {ts : List Turn} (hts : s.turns = turn :: ts) : OnlyTicks i { s with turns := ts } :=
    { h with noReset := fun hmem => h.noReset (hts ▸ List.mem_cons_of_mem turn hmem) }
  cases hts : s.turns with
  | nil =>
    simp only [Machine.step, hts] at hstep
    cases hstep
    exact ⟨h, .of_untouched rfl rfl⟩
  | cons turn ts =>
    cases turn with
    | host =>
      rw [step_host hts] at hstep
      exact (hrest hts).hostTurn hstep
    | sequencer =>
      cases (step_sequencer hts).symm.trans hstep
      exact (hrest hts).sequencerTurn
    | reset => exact absurd (hts ▸ List.mem_cons_self) h.noReset

theorem OnlyTicks.run_ticked {k : Nat} (h : OnlyTicks i s) (hrun : Host.Core.run Sys2Proof.core k s = .next t) :
    Ticked i s t := by
  induction k generalizing s with
  | zero =>
    cases hrun
    exact .of_untouched rfl rfl
  | succ k ih =>
    obtain ⟨u, hstep, hrun⟩ := run_succ_next hrun
    obtain ⟨hu, hticked⟩ := h.step hstep
    exact hticked.trans (ih hu hrun)

end run

/-! ### The phase after n ticks -/

theorem Osc.iterate_tick_delta (o : Osc) (n : Nat) : (Osc.tick^[n] o).delta = o.delta := by
  induction n with
  | zero => rfl
  | succ n ih => rw [Function.iterate_succ_apply', Osc.tick_delta, ih]

theorem Osc.iterate_tick_phase (o : Osc) (n : Nat) :
    (Osc.tick^[n] o).phase.toNat = (o.phase.toNat + n * o.delta.toNat) % 2 ^ 32 := by
  induction n with
  | zero => rw [Nat.zero_mul, Nat.add_zero, Nat.mod_eq_of_lt o.phase.isLt, Function.iterate_zero_apply]
  | succ n ih =>
    rw [Function.iterate_succ_apply', Osc.tick_phase, BitVec.toNat_add, ih, Osc.iterate_tick_delta, Nat.mod_add_mod,
      Nat.add_assoc, ← Nat.succ_mul]

/-- Adding a multiple of `d` modulo `m` gives the same number exactly at multiples of the period (R208). -/
theorem add_mul_mod_eq_self_iff {m p : Nat} (hp : p < m) (n d : Nat) :
    (p + n * d) % m = p ↔ m / Nat.gcd d m ∣ n := by
  have hgcd : 0 < Nat.gcd d m := Nat.gcd_pos_of_pos_right d (Nat.zero_lt_of_lt hp)
  calc (p + n * d) % m = p ↔ p + n * d ≡ p + 0 [MOD m] := by rw [Nat.ModEq, Nat.add_zero, Nat.mod_eq_of_lt hp]
    _ ↔ m ∣ n * d := by rw [Nat.ModEq.add_iff_left rfl, Nat.modEq_zero_iff_dvd]
    _ ↔ m ∣ Nat.gcd d m * n := by rw [Nat.mul_comm, Nat.gcd_comm]; exact (dvd_gcd_mul_iff_dvd_mul ..).symm
    _ ↔ m / Nat.gcd d m ∣ n := (Nat.div_dvd_iff_dvd_mul (Nat.gcd_dvd_right d m) hgcd).symm

/-- Settles O24: by induction on the run the register made `n` ticks, each of which adds the delta. -/
theorem oscPhaseIsPeriodic : Obligations.OscPhaseIsPeriodic :=
  fun k s t i n hrunning hi hsized hidle hreset htodo hrun hn => by
    have hticks : OnlyTicks i s := ⟨⟨hrunning, hi, hsized, hreset, htodo⟩, fun hbusy => absurd hidle hbusy⟩
    obtain ⟨m, hcount, hosc⟩ := hticks.run_ticked hrun
    obtain rfl : n = m := by omega
    have hphase := Osc.iterate_tick_phase (s.oscAt i) n
    rw [hosc]
    refine ⟨Osc.iterate_tick_delta _ n, hphase, ?_⟩
    rw [BitVec.toNat_eq, hphase]
    exact add_mul_mod_eq_self_iff (s.oscAt i).phase.isLt n _

end Sys2Proof.Machine
end

section
/-! The commands of the glitch filter and the quadrature decoder (41_glitch_quadrature.md; O26, O28 to O30). A filter
reports an edge exactly when its debounced state changes, so a rotation is a matter of the states before and after. -/

namespace Sys2Proof.Machine

/-! ### Samples and edges -/

/-- Bit 0 of a bus as a number. -/
theorem bitOperand_zero_toNat (x : Bus) : (bitOperand x 0).toNat = x.toNat % 2 := by
  rw [bitOperand, BitVec.getLsbD, Nat.toNat_testBit, pow_zero, Nat.div_one]

/-- A step in terms of the register it shifts to (R229). -/
theorem gfStep_of_sr {c : Config} {f : Filter} {x : Bool} {sr : Nat} (hsr : sr = (f.sr * 2 + x.toNat) % 2 ^ c.n) :
    gfStep c f x =
      if sr = 2 ^ c.n - 1 ∧ f.state = false then (⟨sr, true⟩, .toSet)
      else if sr = 0 ∧ f.state = true then (⟨sr, false⟩, .toClear)
      else (⟨sr, f.state⟩, .none) := by
  rw [hsr, gfStep]

/-- A filter reports an edge exactly when its state changes. -/
theorem gfStep_edge_ne_none_iff (c : Config) (f : Filter) (x : Bool) :
    (gfStep c f x).2 ≠ .none ↔ (gfStep c f x).1.state ≠ f.state := by
  obtain ⟨-, ⟨-, hold, hnew, hedge⟩ | ⟨-, hold, hnew, hedge⟩ | ⟨hkept, hedge⟩⟩ := gfStep_spec c f x
  · simp [hold, hnew, hedge]
  · simp [hold, hnew, hedge]
  · simp [hkept, hedge]

/-- The rotation from the debounced states of the two channels before and after the sample (R233). -/
def rotationOfStates (a b a' b' : Bool) : Rotation :=
  if a' ≠ a ∧ b' ≠ b then .none
  else if a' ≠ a then (if a' ≠ b' then .increment else .decrement)
  else if b' ≠ b then (if b' = a' then .increment else .decrement)
  else .none

theorem qdStep_rotation (c : Config) (d : Quadrature) (xa xb : Bool) :
    (qdStep c d xa xb).2 = rotationOfStates d.a.state d.b.state
      (qdStep c d xa xb).1.a.state (qdStep c d xa xb).1.b.state := by
  simp only [qdStep, rotation, rotationOfStates, gfStep_edge_ne_none_iff]

/-- The codes of the rotations on the bus (R103, R233). -/
theorem rotationOfStates_code (a b a' b' : Bool) :
    zext64 (rotationOfStates a b a' b').code =
      if a' ≠ a ∧ b' ≠ b then 0
      else if a' ≠ a then (if a' ≠ b' then 1 else 2)
      else if b' ≠ b then (if b' = a' then 1 else 2)
      else 0 := by
  unfold rotationOfStates
  split_ifs <;> rfl

/-! ### Responses -/

/-- GF.READ's response: the register below the state in bit 32 (R97, R232). -/
theorem filterResponse_eq {c : Config} {f : Filter} (hf : f.wf c) (hpos : 1 ≤ c.n) :
    layout [field (c.n - 1) 0 f.sr, field 32 32 f.state.toNat] =
      BitVec.ofNat 64 (f.sr + 2 ^ 32 * f.state.toNat) := by
  have hsr : f.sr < 2 ^ (c.n - 1 + 1 - 0) := by rwa [Nat.sub_zero, Nat.sub_add_cancel hpos]
  rw [layout_pair, field_of_lt hsr, field_of_lt f.state.toNat_lt, pow_zero, Nat.one_mul]

/-- QD.READ's first response word: the two states (R97, R235). -/
theorem quadratureStates_eq (d : Quadrature) :
    layout [field 0 0 d.a.state.toNat, field 1 1 d.b.state.toNat] =
      BitVec.ofNat 64 (d.a.state.toNat + 2 * d.b.state.toNat) := by
  rw [layout_pair, field_of_lt d.a.state.toNat_lt, field_of_lt d.b.state.toNat_lt, pow_zero, Nat.one_mul, pow_one]

/-- A filter's register takes a word at most (R34). -/
theorem Filter.wf.sr_lt {c : Config} {f : Filter} (h : f.wf c) (hn : c.n ≤ 32) : f.sr < 2 ^ 32 :=
  h.trans_le (Nat.pow_le_pow_right two_pos hn)

/-- QD.READ's second response word: the two registers (R97, R235). -/
theorem quadratureRegisters_eq {c : Config} {d : Quadrature} (hd : d.wf c) (hn : c.n ≤ 32) :
    layout [field 31 0 d.a.sr, field 63 32 d.b.sr] = BitVec.ofNat 32 d.b.sr ++ BitVec.ofNat 32 d.a.sr := by
  obtain ⟨ha, hb⟩ := hd
  have ha := ha.sr_lt hn
  have hb := hb.sr_lt hn
  rw [layout_pair, field_of_lt ha, field_of_lt hb, append_eq_ofNat, BitVec.toNat_ofNat, BitVec.toNat_ofNat,
    Nat.mod_eq_of_lt ha, Nat.mod_eq_of_lt hb, pow_zero, Nat.one_mul]

/-! ### One rule per command -/

section commands
variable {s : State} {i : Inst}

theorem exec_gfSample (hrun : s.halted = false) (hi : i.toNat < s.cfg.nGf) :
    exec (.gfSample i) s = .next ((s.setGf i (gfStep s.cfg (s.gfAt i) (bitOperand s.a 0)).1).respond
      (zext64 (gfStep s.cfg (s.gfAt i) (bitOperand s.a 0)).2.code) 0) := onInstance_of_legal hrun hi _

theorem exec_gfRead (hrun : s.halted = false) (hi : i.toNat < s.cfg.nGf) (hf : (s.gfAt i).wf s.cfg)
    (hpos : 1 ≤ s.cfg.n) :
    exec (.gfRead i) s =
      .next (s.respond (BitVec.ofNat 64 ((s.gfAt i).sr + 2 ^ 32 * (s.gfAt i).state.toNat)) 0) := by
  rw [← filterResponse_eq hf hpos]
  exact onInstance_of_legal hrun hi _

theorem exec_qdSample (hrun : s.halted = false) (hi : i.toNat < s.cfg.nQd) :
    exec (.qdSample i) s =
      .next ((s.setQd i (qdStep s.cfg (s.qdAt i) (bitOperand s.a 0) (bitOperand s.a 1)).1).respond
        (zext64 (qdStep s.cfg (s.qdAt i) (bitOperand s.a 0) (bitOperand s.a 1)).2.code) 0) :=
  onInstance_of_legal hrun hi _

theorem exec_qdRead (hrun : s.halted = false) (hi : i.toNat < s.cfg.nQd) (hd : (s.qdAt i).wf s.cfg)
    (hn : s.cfg.n ≤ 32) :
    exec (.qdRead i) s =
      .next (s.respond (BitVec.ofNat 64 ((s.qdAt i).a.state.toNat + 2 * (s.qdAt i).b.state.toNat))
        (BitVec.ofNat 32 (s.qdAt i).b.sr ++ BitVec.ofNat 32 (s.qdAt i).a.sr)) := by
  rw [← quadratureStates_eq, ← quadratureRegisters_eq hd hn]
  exact onInstance_of_legal hrun hi _

end commands

/-! ### The statements -/

/-- Settles O26: the three outcomes of a step are the three outcomes of the command. -/
theorem gfSampleDebounces : Obligations.GfSampleDebounces := fun s i sr hrun hi hsr => by
  refine ⟨decode_encode (.gfSample i), ?_⟩
  rw [← bitOperand_zero_toNat] at hsr
  rw [exec_gfSample hrun hi, gfStep_of_sr hsr]
  split_ifs <;> rfl

/-- Settles O28: an edge of a channel is a change of its state. -/
theorem qdSampleReportsRotation : Obligations.QdSampleReportsRotation := fun s i a' b' hrun hi ha hb => by
  refine ⟨decode_encode (.qdSample i), ?_⟩
  rw [exec_qdSample hrun hi, qdStep_rotation, rotationOfStates_code, ha, hb]
  rfl

/-- Settles O29: the sixteen rows of the table, the eight it leaves out among them. -/
theorem qdDirectionTable : Obligations.QdDirectionTable := fun c d xa xb r hr => by
  rw [hr, qdStep_rotation]
  generalize d.a.state = a, d.b.state = b, (qdStep c d xa xb).1.a.state = a', (qdStep c d xa xb).1.b.state = b'
  revert a b a' b'
  decide

/-- Settles O30: no field of a response reaches into another's bits. -/
theorem filterReadBacks : Obligations.FilterReadBacks := fun s i hrun hn hpos => by
  refine ⟨?gf, ?qd⟩
  case gf => exact fun hi hf => ⟨decode_encode (.gfRead i), exec_gfRead hrun hi hf hpos⟩
  case qd => exact fun hi hd => ⟨decode_encode (.qdRead i), exec_qdRead hrun hi hd hn⟩

end Sys2Proof.Machine
end

section
/-! KP.SCAN_STEP (R252; O31) and KP.READ (R255; O33). A scan goes through the columns in order, so what a whole row does
is an induction on the columns scanned so far. -/

namespace Sys2Proof.Machine

/-! ### The buttons of a scan -/

/-- The buttons among `bs` that are observed down and tracked as up. -/
def Keypad.goingDown (k : Keypad) (level : Button → Bool) (bs : List Button) : List Button :=
  bs.filter fun b => level b && !k.isPressed b

/-- The buttons among `bs` that are observed up and tracked as down. -/
def Keypad.goingUp (k : Keypad) (level : Button → Bool) (bs : List Button) : List Button :=
  bs.filter fun b => !level b && k.isPressed b

/-- The column of a button, whatever its row (R250). -/
theorem buttonId_mod (row : BitVec 2) {col : Nat} (hcol : col < 4) : (buttonId row col).toNat % 4 = col := by
  have := row.isLt
  rw [buttonId, BitVec.toNat_ofNat]
  omega

theorem columnOperand_getLsbD (x : Bus) {col : Nat} (hcol : col < 4) :
    (columnOperand x).getLsbD col = x.getLsbD col := by
  simp [columnOperand, hcol]

section scan
variable {level : Button → Bool} {t : Time} {k k' : Keypad} {bs : List Button} {b : Button}

@[simp] theorem Keypad.goingDown_nil : k.goingDown level [] = [] := rfl

@[simp] theorem Keypad.goingUp_nil : k.goingUp level [] = [] := rfl

theorem Keypad.goingDown_concat :
    k.goingDown level (bs ++ [b]) = k.goingDown level bs ++ if level b && !k.isPressed b then [b] else [] := by
  simp [Keypad.goingDown, List.filter_append, List.filter_cons]

theorem Keypad.goingUp_concat :
    k.goingUp level (bs ++ [b]) = k.goingUp level bs ++ if !level b && k.isPressed b then [b] else [] := by
  simp [Keypad.goingUp, List.filter_append, List.filter_cons]

theorem Keypad.not_mem_goingDown (hb : b ∉ bs) : b ∉ k.goingDown level bs := fun h => hb (List.mem_of_mem_filter h)

theorem Keypad.not_mem_goingUp (hb : b ∉ bs) : b ∉ k.goingUp level bs := fun h => hb (List.mem_of_mem_filter h)

/-! ### What a scan of some buttons does -/

/-- `k'` is the scanner `k` after the buttons `bs` were scanned in this order at time `t` (R252); the row energized next
is no part of it. -/
structure Scanned (level : Button → Bool) (t : Time) (k : Keypad) (bs : List Button) (k' : Keypad) : Prop where
  wf : k'.wf
  row : k'.row = k.row
  isPressed : ∀ b, k'.isPressed b = if b ∈ bs then level b else k.isPressed b
  stack : k'.stack = k.stack.filter (fun b => decide (b ∉ k.goingUp level bs)) ++ k.goingDown level bs
  lastRel : k'.lastRel = match (k.goingUp level bs).getLast? with
    | some b => some b
    | none => k.lastRel.filter fun b => decide (b ∉ k.goingDown level bs)
  changed : k'.changed = (k.changed || !(k.goingDown level bs ++ k.goingUp level bs).isEmpty)
  stamp : k'.stamp = if (k.goingDown level bs ++ k.goingUp level bs).isEmpty then k.stamp else t

theorem Scanned.refl (h : k.wf) : Scanned level t k [] k where
  wf := h
  row := rfl
  isPressed := by simp
  stack := by simp
  lastRel := by cases k.lastRel <;> simp [Option.filter]
  changed := by simp
  stamp := by simp

/-- A button not scanned before is tracked as it was at the start. -/
theorem Scanned.isPressed_of_not_mem (h : Scanned level t k bs k') (hb : b ∉ bs) :
    k'.isPressed b = k.isPressed b := by rw [h.isPressed, if_neg hb]

/-- A button whose level is as tracked adds nothing. -/
theorem Scanned.hold (h : Scanned level t k bs k') (hb : b ∉ bs) (hlevel : level b = k'.isPressed b) :
    Scanned level t k (bs ++ [b]) k' := by
  rw [h.isPressed_of_not_mem hb] at hlevel
  have hdown : k.goingDown level (bs ++ [b]) = k.goingDown level bs := by simp [Keypad.goingDown_concat, hlevel]
  have hup : k.goingUp level (bs ++ [b]) = k.goingUp level bs := by simp [Keypad.goingUp_concat, hlevel]
  refine { h with isPressed := fun b' => ?_, stack := ?_, lastRel := ?_, changed := ?_, stamp := ?_ }
  · by_cases heq : b' = b
    · simp [heq, hlevel, h.isPressed_of_not_mem hb]
    · simp [heq, h.isPressed]
  all_goals rw [hdown, hup]
  · exact h.stack
  · exact h.lastRel
  · exact h.changed
  · exact h.stamp

/-- A press goes on top of the stack, and its button is not the last released one any more. -/
theorem Scanned.press (h : Scanned level t k bs k') (hb : b ∉ bs) (hlevel : level b = true)
    (hreleased : k'.isPressed b = false) :
    Scanned level t k (bs ++ [b]) { k'.press b with stamp := t, changed := true } := by
  have hbefore := (h.isPressed_of_not_mem hb).symm.trans hreleased
  have hdown : k.goingDown level (bs ++ [b]) = k.goingDown level bs ++ [b] := by
    simp [Keypad.goingDown_concat, hlevel, hbefore]
  have hup : k.goingUp level (bs ++ [b]) = k.goingUp level bs := by simp [Keypad.goingUp_concat, hlevel]
  refine ⟨h.wf.press hreleased, h.row, fun b' => ?pressed, ?stack, ?lastRel, ?changed, ?stamp⟩
  case pressed =>
    refine (k'.isPressed_press b b').trans ?_
    by_cases heq : b' = b
    · simp [heq, hlevel]
    · simp [heq, h.isPressed]
  all_goals rw [hdown, hup]
  case stack => simp [h.stack]
  case lastRel =>
    rw [Keypad.press_lastRel, h.lastRel]
    cases hlast : (k.goingUp level bs).getLast? with
    | some u =>
      have hne : u ≠ b := fun e => Keypad.not_mem_goingUp hb (e ▸ List.mem_of_getLast? hlast)
      simp [hne]
    | none =>
      cases k.lastRel with
      | none => simp
      | some l => by_cases heq : l = b <;> simp [Option.filter, heq, Keypad.not_mem_goingDown hb]
  case changed => simp
  case stamp => simp

/-- A release takes its button, which the stack holds once, off the stack. -/
theorem Scanned.release (h : Scanned level t k bs k') (hb : b ∉ bs) (hlevel : level b = false)
    (hpressed : k'.isPressed b = true) :
    Scanned level t k (bs ++ [b]) { k'.release b with stamp := t, changed := true } := by
  have hbefore := (h.isPressed_of_not_mem hb).symm.trans hpressed
  have hdown : k.goingDown level (bs ++ [b]) = k.goingDown level bs := by simp [Keypad.goingDown_concat, hlevel]
  have hup : k.goingUp level (bs ++ [b]) = k.goingUp level bs ++ [b] := by
    simp [Keypad.goingUp_concat, hlevel, hbefore]
  obtain ⟨-, hnodup, -⟩ := h.wf
  refine ⟨h.wf.release b, h.row, fun b' => ?pressed, ?stack, ?lastRel, ?changed, ?stamp⟩
  case pressed =>
    refine (k'.isPressed_release b b').trans ?_
    by_cases heq : b' = b
    · simp [heq, hlevel]
    · simp [heq, h.isPressed]
  all_goals rw [hdown, hup]
  case stack =>
    have hkept : (k.goingDown level bs).filter (· != b) = k.goingDown level bs :=
      List.filter_eq_self.mpr fun d hd => bne_iff_ne.mpr fun e => Keypad.not_mem_goingDown hb (e ▸ hd)
    rw [Keypad.release_stack, hnodup.erase_eq_filter, h.stack, List.filter_append, hkept, List.filter_filter]
    congr 2
    funext d
    simp [bne, beq_eq_decide, Bool.and_comm]
  case lastRel => simp
  case changed => simp
  case stamp => simp

end scan

/-! ### A row of the matrix -/

/-- The three things a column can do are the three ways a scan goes on (R252). -/
theorem Scanned.scanColumn {level : Button → Bool} {t : Time} {k k' : Keypad} {bs : List Button} {cols : BitVec 4}
    {col : Nat} (h : Scanned level t k bs k') (hb : buttonId k.row col ∉ bs)
    (hcol : cols.getLsbD col = level (buttonId k.row col)) :
    Scanned level t k (bs ++ [buttonId k.row col]) (k'.scanColumn t cols col) := by
  have hspec := scanColumn_spec t cols k' col
  rw [h.row, hcol] at hspec
  obtain ⟨hsame, hk⟩ | ⟨hdown, hup, hk⟩ | ⟨hup, hdown, hk⟩ := hspec <;> rw [hk]
  · exact h.hold hb hsame
  · exact h.press hb hdown hup
  · exact h.release hb hup hdown

/-- Columns that name different buttons are scanned one after the other. -/
theorem scanned_foldl {level : Button → Bool} {k : Keypad} {cols : BitVec 4} (t : Time) (hk : k.wf) (cs : List Nat)
    (hnodup : (cs.map (buttonId k.row)).Nodup) (hlevel : ∀ c ∈ cs, cols.getLsbD c = level (buttonId k.row c)) :
    Scanned level t k (cs.map (buttonId k.row)) (cs.foldl (Keypad.scanColumn t cols) k) := by
  induction cs using List.reverseRecOn with
  | nil => exact .refl hk
  | append_singleton cs c ih =>
    rw [List.map_append, List.map_singleton] at hnodup ⊢
    rw [List.foldl_append]
    obtain ⟨hnodup, -, hfresh⟩ := List.nodup_append'.mp hnodup
    have hscanned := ih hnodup fun c' hc' => hlevel c' (List.mem_append_left _ hc')
    exact hscanned.scanColumn (fun hmem => hfresh hmem (List.mem_singleton_self _)) (hlevel c (by simp))

theorem rowButtons_nodup : ∀ row : BitVec 2, ([0, 1, 2, 3].map (buttonId row)).Nodup := by decide

/-- A scan of the energized row gives each of its buttons the level of its column on the operand bus (R252). -/
theorem scanRow_scanned {k : Keypad} (hk : k.wf) (t : Time) (x : Bus) :
    Scanned (fun b => x.getLsbD (b.toNat % 4)) t k ([0, 1, 2, 3].map (buttonId k.row))
      (k.scanRow t (columnOperand x)) :=
  scanned_foldl t hk [0, 1, 2, 3] (rowButtons_nodup k.row) fun c hc => by
    have hlt : c < 4 := by revert c; decide
    rw [columnOperand_getLsbD x hlt, buttonId_mod k.row hlt]

/-! ### The read-back -/

/-- A stack takes four bits an entry. -/
theorem stackWord_lt (bs : List Button) : stackWord bs < 2 ^ (4 * bs.length) := by
  induction bs with
  | nil => exact Nat.one_pos
  | cons b bs ih =>
    have := b.isLt
    rw [stackWord, List.length_cons, Nat.mul_succ, pow_add]
    omega

/-- Entry `i` of a stack is in bits `4i+3 : 4i` of its word, and there are zeros above the last (R255). -/
theorem stackWord_entry (bs : List Button) (i : Nat) :
    stackWord bs / 2 ^ (4 * i) % 2 ^ 4 = (bs.getD i 0).toNat := by
  induction bs generalizing i with
  | nil => simp [stackWord]
  | cons b bs ih =>
    have hb := b.isLt
    cases i with
    | zero =>
      rw [stackWord, Nat.mul_zero, pow_zero, Nat.div_one, Nat.add_mul_mod_self_left, Nat.mod_eq_of_lt hb,
        List.getD_cons_zero]
    | succ i =>
      have htail : stackWord (b :: bs) / 2 ^ 4 = stackWord bs := by
        rw [stackWord]
        omega
      rw [Nat.mul_succ, Nat.add_comm, pow_add, ← Nat.div_div_eq_div_mul, htail, ih, List.getD_cons_succ]

/-- Sixteen entries are all that a keypad's stack holds, so a bus takes it whole (R37, R255). -/
theorem Keypad.wf.stackWord_lt {k : Keypad} (h : k.wf) : stackWord k.stack < 2 ^ 64 :=
  (Machine.stackWord_lt k.stack).trans_le (Nat.pow_le_pow_right two_pos (Nat.mul_le_mul_left 4 h.stack_length_le))

/-- KP.READ's first response word: every field fits its bits, the stack's length because it is 16 at most (R37, R97). -/
theorem keypadResponse_eq {k : Keypad} (h : k.wf) :
    keypadResponse k = BitVec.ofNat 64 (k.pressed.toNat + 2 ^ 16 * k.row.toNat + 2 ^ 18 * k.stack.length +
      2 ^ 23 * k.lastRel.isSome.toNat + 2 ^ 24 * (k.lastRel.getD 0).toNat + 2 ^ 28 * k.changed.toNat) := by
  have hlength : k.stack.length < 2 ^ (22 + 1 - 18) := h.stack_length_le.trans_lt (by decide)
  rw [keypadResponse, layout, field_of_lt k.pressed.isLt, field_of_lt k.row.isLt, field_of_lt hlength,
    field_of_lt k.lastRel.isSome.toNat_lt, field_of_lt (k.lastRel.getD 0).isLt, field_of_lt k.changed.toNat_lt]
  simp only [List.sum_cons, List.sum_nil, pow_zero, Nat.one_mul, Nat.add_zero, Nat.add_assoc]

/-! ### The statements -/

section commands
variable {s : State}

theorem exec_kpScanStep (hrun : s.halted = false) :
    exec .kpScanStep s = .next (s.setKp (s.kp.scanStep s.a (columnOperand s.b))).done :=
  unlessHalted_of_running hrun _

theorem exec_kpRead (hrun : s.halted = false) :
    exec .kpRead s = .next (s.respond (keypadResponse s.kp) (BitVec.ofNat 64 (stackWord s.kp.stack))) :=
  unlessHalted_of_running hrun _

end commands

/-- Settles O31: a scan step is a scan of the row's buttons, then the next row. -/
theorem kpScanStepTracksRow : Obligations.KpScanStepTracksRow := fun s row down up hrun hwf hrow hdown hup => by
  subst hrow hdown hup
  have h := scanRow_scanned hwf s.a s.b
  exact ⟨decode_encode .kpScanStep, _, exec_kpScanStep hrun, rfl, h.isPressed, h.stack, h.lastRel, h.changed, h.stamp⟩

/-- Settles O33: no field of either response reaches into another's bits. -/
theorem kpReadShowsStack : Obligations.KpReadShowsStack := fun s hrun hwf => by
  refine ⟨decode_encode .kpRead, BitVec.ofNat 64 (stackWord s.kp.stack), ?response, fun i _ => ?entry⟩
  case response =>
    rw [exec_kpRead hrun, keypadResponse_eq hwf]
    rfl
  case entry =>
    rw [BitVec.toNat_ofNat, Nat.mod_eq_of_lt hwf.stackWord_lt]
    exact stackWord_entry s.kp.stack i

end Sys2Proof.Machine
end

section
/-! The commands of the envelope generator (43_adsr.md; O35 to O38). An interpolation is a rising or a falling one, and
both are plain division of natural numbers: the values and the monotonicity of a tick come from that. -/

namespace Sys2Proof.Machine

/-! ### Interpolation -/

section interpolation
variable {t t' t0 t1 : Time} {y0 y1 : Nat}

/-- An interpolation towards a value no less adds the elapsed share of the difference (R270). -/
theorem interpEnv_rising (h : y0 ≤ y1) :
    interpEnv t t0 t1 y0 y1 = y0 + (t.toNat - t0.toNat) * (y1 - y0) / (t1.toNat - t0.toNat) := by
  rw [interpEnv, interpolate, ← Nat.cast_sub h, ← Nat.cast_mul, ← Int.ofNat_tdiv, ← Nat.cast_add, Int.toNat_natCast]

/-- An interpolation towards a value no greater takes the elapsed share of the difference away (R270). -/
theorem interpEnv_falling (h : y1 ≤ y0) :
    interpEnv t t0 t1 y0 y1 = y0 - (t.toNat - t0.toNat) * (y0 - y1) / (t1.toNat - t0.toNat) := by
  rw [interpEnv, interpolate, ← neg_sub (y0 : Int) y1, mul_neg, Int.neg_tdiv, ← sub_eq_add_neg, ← Nat.cast_sub h,
    ← Nat.cast_mul, ← Int.ofNat_tdiv, Int.toNat_sub]

theorem interpEnv_mono_of_le (h : y0 ≤ y1) (ht : t.toNat ≤ t'.toNat) :
    interpEnv t t0 t1 y0 y1 ≤ interpEnv t' t0 t1 y0 y1 := by
  rw [interpEnv_rising h, interpEnv_rising h]
  gcongr

theorem interpEnv_anti_of_le (h : y1 ≤ y0) (ht : t.toNat ≤ t'.toNat) :
    interpEnv t' t0 t1 y0 y1 ≤ interpEnv t t0 t1 y0 y1 := by
  rw [interpEnv_falling h, interpEnv_falling h]
  gcongr

end interpolation

/-! ### The value of an envelope state -/

section value
variable {c : Config} {p : Profile} {t b ae de stop : Time}

theorem value_attack (hb : b.toNat ≤ t.toNat) :
    EnvState.value c p (.attack b ae de) t =
      .ok ((t.toNat - b.toNat) * c.emax / (ae.toNat - b.toNat)) := by
  rw [EnvState.value, if_pos hb, interpEnv_rising (Nat.zero_le _), Nat.zero_add, Nat.sub_zero]

theorem value_decay (hp : p.sustain ≤ c.emax) (hb : b.toNat ≤ t.toNat) :
    EnvState.value c p (.decay b stop) t =
      .ok (c.emax - (t.toNat - b.toNat) * (c.emax - p.sustain) / (stop.toNat - b.toNat)) := by
  rw [EnvState.value, if_pos hb, interpEnv_falling hp]

theorem value_release {v : Nat} (hb : b.toNat ≤ t.toNat) :
    EnvState.value c p (.release b v stop) t =
      .ok (v - (t.toNat - b.toNat) * v / (stop.toNat - b.toNat)) := by
  rw [EnvState.value, if_pos hb, interpEnv_falling (Nat.zero_le _), Nat.sub_zero]

/-- A state has no value before it begins (R274). -/
theorem value_before_start {st : EnvState} (h : t.toNat < st.startTime) :
    EnvState.value c p st t = .error .timeBeforeStateStart := by
  cases st with
  | off | sustain => exact absurd h (Nat.not_lt_zero _)
  | attack | decay | release => exact if_neg h.not_ge

end value

/-! ### The envelope on a sample -/

/-- An envelope value read as a sample is at most the greatest sample (R6). -/
theorem emax_cast (c : Config) : (c.emax : Int) = c.smax := by
  rw [Config.emax, Config.smax, Nat.cast_sub Nat.one_le_two_pow]
  push_cast
  rfl

/-- Scaling a sample by an envelope value leaves at most that value, with either sign (R275). -/
theorem applyEnv_between {c : Config} {x : Int} (hx : c.IsSample x) (e : Nat) :
    -(e : Int) ≤ applyEnv c x e ∧ applyEnv c x e ≤ e := by
  obtain ⟨hmin, hmax⟩ := hx
  rw [Config.smin] at hmin
  rw [Config.smax] at hmax
  rw [applyEnv, asr, Config.eb]
  have hpos : (0 : Int) < 2 ^ (c.w - 1) := by positivity
  constructor
  · rw [Int.le_ediv_iff_mul_le hpos, neg_mul_comm, mul_comm x]
    gcongr
  · rw [mul_comm x]
    refine Int.ediv_le_of_le_mul hpos ?_
    gcongr
    omega

/-! ### Feeding an event -/

section feed
variable {c : Config} {p : Profile} {e : Adsr} {ts : Time} {x : Bus}

theorem Adsr.feed_absent (hvalid : x.getLsbD 0 = false) : e.feed c p ts (eventOperand x) = .ok e := by
  simp only [Adsr.feed, eventOperand, hvalid, Bool.false_eq_true, if_false]

theorem Adsr.feed_pressed (hvalid : x.getLsbD 0 = true) (hkind : x.getLsbD 1 = false) :
    e.feed c p ts (eventOperand x) = e.press c p ts := by
  simp only [Adsr.feed, eventOperand, hvalid, hkind, Bool.false_eq_true, if_true, if_false]

theorem Adsr.feed_released (hvalid : x.getLsbD 0 = true) (hkind : x.getLsbD 1 = true) :
    e.feed c p ts (eventOperand x) = e.release c p ts := by
  simp only [Adsr.feed, eventOperand, hvalid, hkind, if_true]

theorem Adsr.release_of_sounding (h : e.st.sounding = true) :
    e.release c p ts = (deadline c ts p.release).map fun stop => ⟨.release ts e.env stop, e.env⟩ := by
  unfold Adsr.release
  cases hst : e.st with
  | attack | decay | sustain => rfl
  | off | release => simp [hst, EnvState.sounding] at h

theorem Adsr.release_of_silent (h : e.st.sounding = false) : e.release c p ts = .ok e := by
  unfold Adsr.release
  cases hst : e.st with
  | off | release => rfl
  | attack | decay | sustain => simp [hst, EnvState.sounding] at h

theorem deadline_of_fits {d : Nat} (htb : c.tb = 64) (h : ts.toNat + d < 2 ^ 64) :
    deadline c ts d = .ok (BitVec.ofNat 64 (ts.toNat + d)) := by
  rw [deadline, htb, if_pos h]

theorem deadline_of_overflow {d : Nat} (htb : c.tb = 64) (h : 2 ^ 64 ≤ ts.toNat + d) :
    deadline c ts d = .error .deadlineOverflow := by
  rw [deadline, htb, if_neg h.not_gt]

end feed

/-! ### One rule per command -/

section commands
variable {s : State} {i : Inst} {p : Profile} {e : Adsr}

theorem State.adsrAt_of_getElem? (h : s.adsr[i.toNat]? = some e) : s.adsrAt i = e := by
  rw [State.adsrAt, List.getD_eq_getElem?_getD, h, Option.getD_some]

theorem State.profileAdsr_of_getElem? (h : s.cfg.profileAdsr[i.toNat]? = some p) : s.profileAdsr i = p := by
  rw [State.profileAdsr, List.getD_eq_getElem?_getD, h, Option.getD_some]

/-- Writing back the generator that stands there changes nothing. -/
theorem State.setAdsr_of_getElem? (h : s.adsr[i.toNat]? = some e) : s.setAdsr i e = s := by
  obtain ⟨hlt, rfl⟩ := List.getElem?_eq_some_iff.mp h
  rw [State.setAdsr, List.set_getElem_self]

theorem exec_adsrFeed (hrun : s.halted = false) (hi : i.toNat < s.cfg.nAdsr) :
    exec (.adsrFeed i) s = completeOr
      (((s.adsrAt i).feed s.cfg (s.profileAdsr i) s.a (eventOperand s.b)).map (s.setAdsr i)) :=
  onInstance_of_legal hrun hi _

theorem exec_adsrTick (hrun : s.halted = false) (hi : i.toNat < s.cfg.nAdsr) :
    exec (.adsrTick i) s = completeOr (((s.adsrAt i).tick s.cfg (s.profileAdsr i) s.a).map (s.setAdsr i)) :=
  onInstance_of_legal hrun hi _

theorem exec_adsrApply (hrun : s.halted = false) (hi : i.toNat < s.cfg.nAdsr) :
    exec (.adsrApply i) s = .next (s.respond
      (BitVec.ofInt 64 (applyEnv s.cfg (sampleOperand s.cfg s.a) (s.adsrAt i).env)) 0) :=
  onInstance_of_legal hrun hi _

/-- A tick that is in time: the transition due, then the value of the state it leads to (R273). -/
theorem exec_adsrTick_of_value (hrun : s.halted = false) (hi : i.toNat < s.cfg.nAdsr) {st st' : EnvState} {v : Nat}
    (hst : (s.adsrAt i).st = st) (hadv : st.advance s.a = st')
    (hv : EnvState.value s.cfg (s.profileAdsr i) st' s.a = .ok v) :
    exec (.adsrTick i) s = .next (s.setAdsr i ⟨st', v⟩).done := by
  rw [exec_adsrTick hrun hi, Adsr.tick, hst, hadv, hv]
  rfl

/-- A tick before the start of the state it leads to (R274). -/
theorem exec_adsrTick_of_early (hrun : s.halted = false) (hi : i.toNat < s.cfg.nAdsr) {st st' : EnvState}
    (hst : (s.adsrAt i).st = st) (hadv : st.advance s.a = st') (hearly : s.a.toNat < st'.startTime) :
    exec (.adsrTick i) s = .fault .timeBeforeStateStart := by
  rw [exec_adsrTick hrun hi, Adsr.tick, hst, hadv, value_before_start hearly]
  rfl

/-- What a tick that completes leaves: the generator written, its envelope the value of its new state (R273). -/
theorem exec_adsrTick_next {t : State} (hrun : s.halted = false) (hi : i.toNat < s.cfg.nAdsr)
    (h : exec (.adsrTick i) s = .next t) :
    ∃ e', t = (s.setAdsr i e').done ∧ EnvState.value s.cfg (s.profileAdsr i) e'.st s.a = .ok e'.env := by
  rw [exec_adsrTick hrun hi] at h
  obtain ⟨u, hu, rfl⟩ := completeOr_next h
  obtain ⟨e', he', rfl⟩ := map_eq_ok hu
  obtain ⟨-, hv⟩ := adsrTick_ok he'
  exact ⟨e', rfl, hv⟩

end commands

/-! ### The statements -/

/-- Settles O36: in each case the transition due, then the value of the state it leads to. -/
theorem adsrTickMovesAndInterpolates : Obligations.AdsrTickMovesAndInterpolates :=
    fun s i p e goTo hrun hi hlegal hp he hgoTo => by
  subst hgoTo
  obtain rfl := State.profileAdsr_of_getElem? hp
  obtain rfl := State.adsrAt_of_getElem? he
  have hsus := sustain_profileAdsr_le hlegal hi
  have moves := @exec_adsrTick_of_value s i hrun hi
  have faults := @exec_adsrTick_of_early s i hrun hi
  refine ⟨decode_encode (.adsrTick i), fun hst => moves hst rfl rfl, fun hst => moves hst rfl rfl, ?attack, ?decay,
    ?release⟩
  case attack =>
    intro b ae de hst
    refine ⟨fun hde => moves hst (if_pos hde) rfl, fun hde hae => ?toDecay, fun hde hae hb => ?stays,
      fun hde hae hb => ?early⟩
    case toDecay => exact moves hst ((if_neg hde.not_ge).trans (if_pos hae)) (value_decay hsus hae)
    case stays => exact moves hst ((if_neg hde.not_ge).trans (if_neg hae.not_ge)) (value_attack hb)
    case early => exact faults hst ((if_neg hde.not_ge).trans (if_neg hae.not_ge)) hb
  case decay =>
    exact fun b stop hst => ⟨fun hstop => moves hst (if_pos hstop) rfl,
      fun hstop hb => moves hst (if_neg hstop.not_ge) (value_decay hsus hb),
      fun hstop hb => faults hst (if_neg hstop.not_ge) hb⟩
  case release =>
    exact fun b v stop hst => ⟨fun hstop => moves hst (if_pos hstop) rfl,
      fun hstop hb => moves hst (if_neg hstop.not_ge) (value_release hb),
      fun hstop hb => faults hst (if_neg hstop.not_ge) hb⟩

/-- Settles O37: the scaled sample is bounded by the envelope value, itself at most the greatest sample. -/
theorem adsrApplyScalesSample : Obligations.AdsrApplyScalesSample := fun s i x hrun hi hw hx henv => by
  obtain ⟨hlo, hhi⟩ := applyEnv_between hx.1 (s.adsrAt i).env
  have henv' : ((s.adsrAt i).env : Int) ≤ s.cfg.smax := emax_cast s.cfg ▸ Int.ofNat_le.mpr henv
  refine ⟨decode_encode (.adsrApply i), applyEnv s.cfg x (s.adsrAt i).env, asr_eq_fdiv _ _, by omega, by omega, ?_⟩
  rw [exec_adsrApply hrun hi, sampleOperand_unique hw hx]
  rfl

/-- Settles O38: both ticks evaluate the same state, at two times in order. -/
theorem envelopeIsMonotone : Obligations.EnvelopeIsMonotone :=
    fun s t u i later hrun hi hlegal hsized hfirst hlater hsecond hsame => by
  obtain ⟨e, rfl, hv⟩ := exec_adsrTick_next hrun hi hfirst
  obtain ⟨e', rfl, hv'⟩ := exec_adsrTick_next (s := { (s.setAdsr i e).done with a := later }) hrun hi hsecond
  obtain ⟨-, -, -, hlen, -⟩ := hsized
  have he : (s.setAdsr i e).done.adsrAt i = e := State.adsrAt_setAdsr_self (hlen ▸ hi)
  have he' : ({ (s.setAdsr i e).done with a := later }.setAdsr i e').done.adsrAt i = e' :=
    State.adsrAt_setAdsr_self (by simpa using hlen ▸ hi)
  rw [he, he'] at hsame
  rw [hsame] at hv'
  rw [he, he']
  cases hst : e.st <;> rw [hst] at hv hv'
  case off | sustain =>
    exact ⟨(Except.ok.inj hv).symm, (Except.ok.inj hv').symm⟩
  case attack =>
    rw [eq_of_guard_ok hv, eq_of_guard_ok hv']
    exact interpEnv_mono_of_le (Nat.zero_le _) hlater
  case decay =>
    rw [eq_of_guard_ok hv, eq_of_guard_ok hv']
    exact interpEnv_anti_of_le (sustain_profileAdsr_le hlegal hi) hlater
  case release =>
    rw [eq_of_guard_ok hv, eq_of_guard_ok hv']
    exact interpEnv_anti_of_le (Nat.zero_le _) hlater

/-- Settles O35: an event is absent, pressed or released, and its deadline fits or does not. -/
theorem adsrFeedTransitions : Obligations.AdsrFeedTransitions := fun s i p e hrun hi hlegal hp he => by
  obtain rfl := State.profileAdsr_of_getElem? hp
  obtain rfl := State.adsrAt_of_getElem? he
  have feeds := exec_adsrFeed hrun hi
  have htb := hlegal.tb_eq
  have unchanged : (s.setAdsr i (s.adsrAt i)).done = s.done := by rw [State.setAdsr_of_getElem? he]
  refine ⟨decode_encode (.adsrFeed i), fun hvalid => ?absent, fun hvalid hkind hfits => ?press,
    fun hvalid hkind hover => ?pressOverflow, fun hvalid hkind hsound hfits => ?release,
    fun hvalid hkind hsound hover => ?releaseOverflow, fun hvalid hkind hsilent => ?ignored⟩
  case absent =>
    rw [feeds, Adsr.feed_absent hvalid]
    exact congrArg _ unchanged
  case press =>
    rw [Nat.add_assoc] at hfits ⊢
    rw [feeds, Adsr.feed_pressed hvalid hkind, Adsr.press, deadline_of_fits htb hfits]
    rfl
  case pressOverflow =>
    rw [Nat.add_assoc] at hover
    rw [feeds, Adsr.feed_pressed hvalid hkind, Adsr.press, deadline_of_overflow htb hover]
    rfl
  case release =>
    rw [feeds, Adsr.feed_released hvalid hkind, Adsr.release_of_sounding hsound, deadline_of_fits htb hfits]
    rfl
  case releaseOverflow =>
    rw [feeds, Adsr.feed_released hvalid hkind, Adsr.release_of_sounding hsound, deadline_of_overflow htb hover]
    rfl
  case ignored =>
    rw [feeds, Adsr.feed_released hvalid hkind, Adsr.release_of_silent hsilent]
    exact congrArg _ unchanged

end Sys2Proof.Machine
end

section
/-! The FM operator's commands (44_operator.md; O39 to O42). The envelope part of OP.TICK and OP.FEED_EVENT answers
exactly when the host contract is kept, so that part alone decides whether the whole command faults. -/

namespace Sys2Proof.Machine

/-! ### Samples -/

/-- A pattern stands for one sample (R95). -/
theorem isSampleOf_unique {c : Config} (hw : 0 < c.w) {x : Nat} {y z : Int} (hy : IsSampleOf c x y)
    (hz : IsSampleOf c x z) : y = z := by
  obtain ⟨⟨hymin, hymax⟩, hycongr⟩ := hy
  obtain ⟨⟨hzmin, hzmax⟩, hzcongr⟩ := hz
  refine signed_unique hw hymin hymax hzmin hzmax (Int.emod_eq_zero_of_dvd ?_)
  have hdvd := Int.dvd_sub (Int.dvd_of_emod_eq_zero hzcongr) (Int.dvd_of_emod_eq_zero hycongr)
  rwa [sub_sub_sub_cancel_left] at hdvd

theorem saw_eq_of_isSampleOf {c : Config} (hlegal : c.Legal) {phase : Word32} {y : Int}
    (h : IsSampleOf c (phase.toNat / 2 ^ (32 - c.w)) y) : saw c phase = y := by
  have hle : c.w ≤ 32 := by
    have := hlegal.w_cases
    omega
  exact isSampleOf_unique hlegal.w_pos (saw_isSampleOf hlegal.w_pos hle phase) h

theorem applyEnv_eq_fdiv (c : Config) (x : Int) (e : Nat) : applyEnv c x e = Int.fdiv (x * e) (2 ^ (c.w - 1)) :=
  asr_eq_fdiv _ _

/-! ### When the envelope part keeps the host contract -/

section contract
variable {c : Config} {p : Profile} {e : Adsr} {t : Time} {ev : Event}

/-- A state that has begun has a value (R274). -/
theorem value_of_started {st : EnvState} (h : st.startTime ≤ t.toNat) : ∃ v, EnvState.value c p st t = .ok v := by
  cases st with
  | off | sustain => exact ⟨_, rfl⟩
  | attack | decay | release => exact ⟨_, if_pos h⟩

theorem Adsr.tick_of_inTime (h : TickInTime e.st t) : ∃ v, e.tick c p t = .ok ⟨e.st.advance t, v⟩ := by
  obtain ⟨v, hv⟩ := value_of_started (c := c) (p := p) h
  exact ⟨v, by rw [Adsr.tick, hv]; rfl⟩

theorem Adsr.tick_of_early (h : ¬ TickInTime e.st t) : e.tick c p t = .error .timeBeforeStateStart := by
  rw [Adsr.tick, value_before_start (Nat.lt_of_not_le h)]
  rfl

theorem Adsr.feed_of_pressed (hvalid : ev.valid = true) (hkind : ev.kind = .pressed) :
    e.feed c p t ev = e.press c p t := by
  simp only [Adsr.feed, hvalid, hkind, if_true]

theorem Adsr.feed_of_released (hvalid : ev.valid = true) (hkind : ev.kind = .released) :
    e.feed c p t ev = e.release c p t := by
  simp only [Adsr.feed, hvalid, hkind, if_true]

/-- A feed whose deadline fits is answered (R272). -/
theorem Adsr.feed_of_fits (htb : c.tb = 64) (hvalid : ev.valid = true) (h : FeedFits p e.st t ev) :
    ∃ e', e.feed c p t ev = .ok e' := by
  obtain ⟨hpress, hrelease⟩ := h hvalid
  cases hkind : ev.kind with
  | pressed =>
    have hfits := hpress hkind
    rw [Nat.add_assoc] at hfits
    rw [Adsr.feed_of_pressed hvalid hkind, Adsr.press, deadline_of_fits htb hfits]
    exact ⟨_, rfl⟩
  | released =>
    rw [Adsr.feed_of_released hvalid hkind]
    cases hsound : e.st.sounding with
    | true =>
      rw [Adsr.release_of_sounding hsound, deadline_of_fits htb (hrelease hkind hsound)]
      exact ⟨_, rfl⟩
    | false => exact ⟨e, Adsr.release_of_silent hsound⟩

/-- A feed breaks the host contract only by the deadline of a press, or of a release that ends a note (R272). -/
theorem feed_overflow_cases {st : EnvState} (h : ¬ FeedFits p st t ev) :
    ev.valid = true ∧
      ((ev.kind = .pressed ∧ 2 ^ 64 ≤ t.toNat + (p.attack + p.decay)) ∨
        (ev.kind = .released ∧ st.sounding = true ∧ 2 ^ 64 ≤ t.toNat + p.release)) := by
  rw [← Nat.add_assoc]
  simpa only [Classical.not_imp, not_and_or, Nat.not_lt] using h

theorem Adsr.feed_of_overflow (htb : c.tb = 64) (h : ¬ FeedFits p e.st t ev) :
    e.feed c p t ev = .error .deadlineOverflow := by
  obtain ⟨hvalid, ⟨hkind, hover⟩ | ⟨hkind, hsound, hover⟩⟩ := feed_overflow_cases h
  · rw [Adsr.feed_of_pressed hvalid hkind, Adsr.press, deadline_of_overflow htb hover]
    rfl
  · rw [Adsr.feed_of_released hvalid hkind, Adsr.release_of_sounding hsound, deadline_of_overflow htb hover]
    rfl

end contract

/-! ### One rule per command -/

section commands
variable {s : State} {i : Inst} {o : Operator} {e : Adsr} {f : Fault}

theorem State.opAt_of_getElem? (h : s.op[i.toNat]? = some o) : s.opAt i = o := by
  rw [State.opAt, List.getD_eq_getElem?_getD, h, Option.getD_some]

theorem State.profileOp_of_getElem? {p : Profile} (h : s.cfg.profileOp[i.toNat]? = some p) : s.profileOp i = p := by
  rw [State.profileOp, List.getD_eq_getElem?_getD, h, Option.getD_some]

theorem State.ratioOp_of_getElem? {ratio : Nat} (h : s.cfg.ratioOp[i.toNat]? = some ratio) : s.ratioOp i = ratio := by
  rw [State.ratioOp, List.getD_eq_getElem?_getD, h, Option.getD_some]

/-- Writing back the operator that stands there changes nothing. -/
theorem State.setOp_of_getElem? (h : s.op[i.toNat]? = some o) : s.setOp i o = s := by
  obtain ⟨hlt, rfl⟩ := List.getElem?_eq_some_iff.mp h
  rw [State.setOp, List.set_getElem_self]

theorem freqEntry_of_getElem? {c : Config} {b : Button} {delta : Nat} (h : c.freqTable[b.toNat]? = some delta) :
    freqEntry c b = BitVec.ofNat 32 delta := by
  rw [freqEntry, List.getD_eq_getElem?_getD, h, Option.getD_some]

theorem exec_opTick (hrun : s.halted = false) (hi : i.toNat < s.cfg.nOp) :
    exec (.opTick i) s = completeOr
      (((s.opAt i).tick s.cfg (s.profileOp i) (s.ratioOp i) s.a).map (s.setOp i)) :=
  onInstance_of_legal hrun hi _

/-- A tick whose envelope part answers writes both parts (R290). -/
theorem exec_opTick_of_ok (hrun : s.halted = false) (hi : i.toNat < s.cfg.nOp)
    (h : (s.opAt i).adsr.tick s.cfg (s.profileOp i) s.a = .ok e) :
    exec (.opTick i) s = .next (s.setOp i
      ⟨(s.opAt i).osc.tickMod s.cfg (s.opAt i).input (s.ratioOp i), e, (s.opAt i).input⟩).done := by
  rw [exec_opTick hrun hi, Operator.tick, h]
  rfl

theorem exec_opTick_of_error (hrun : s.halted = false) (hi : i.toNat < s.cfg.nOp)
    (h : (s.opAt i).adsr.tick s.cfg (s.profileOp i) s.a = .error f) : exec (.opTick i) s = .fault f := by
  rw [exec_opTick hrun hi, Operator.tick, h]
  rfl

theorem exec_opFeedEvent (hrun : s.halted = false) (hi : i.toNat < s.cfg.nOp) :
    exec (.opFeedEvent i) s = completeOr
      (((s.opAt i).feed s.cfg (s.profileOp i) s.a (eventOperand s.b)).map (s.setOp i)) :=
  onInstance_of_legal hrun hi _

/-- An absent event completes with the operator as it was (R291). -/
theorem exec_opFeedEvent_of_absent (hrun : s.halted = false) (hi : i.toNat < s.cfg.nOp)
    (hvalid : (eventOperand s.b).valid = false) :
    exec (.opFeedEvent i) s = .next (s.setOp i (s.opAt i)).done := by
  rw [exec_opFeedEvent hrun hi, Operator.feed, hvalid]
  rfl

/-- A present event that the envelope part takes also loads the delta of its button (R291). -/
theorem exec_opFeedEvent_of_ok (hrun : s.halted = false) (hi : i.toNat < s.cfg.nOp)
    (hvalid : (eventOperand s.b).valid = true)
    (h : (s.opAt i).adsr.feed s.cfg (s.profileOp i) s.a (eventOperand s.b) = .ok e) :
    exec (.opFeedEvent i) s = .next (s.setOp i
      ⟨⟨(s.opAt i).osc.phase, freqEntry s.cfg (eventOperand s.b).button⟩, e, (s.opAt i).input⟩).done := by
  rw [exec_opFeedEvent hrun hi, Operator.feed, if_pos hvalid, h]
  rfl

theorem exec_opFeedEvent_of_error (hrun : s.halted = false) (hi : i.toNat < s.cfg.nOp)
    (hvalid : (eventOperand s.b).valid = true)
    (h : (s.opAt i).adsr.feed s.cfg (s.profileOp i) s.a (eventOperand s.b) = .error f) :
    exec (.opFeedEvent i) s = .fault f := by
  rw [exec_opFeedEvent hrun hi, Operator.feed, if_pos hvalid, h]
  rfl

theorem exec_opSetInput (hrun : s.halted = false) (hi : i.toNat < s.cfg.nOp) :
    exec (.opSetInput i) s =
      .next (s.setOp i ⟨(s.opAt i).osc, (s.opAt i).adsr, sampleOperand s.cfg s.a⟩).done :=
  onInstance_of_legal hrun hi _

theorem exec_opSaw (hrun : s.halted = false) (hi : i.toNat < s.cfg.nOp) :
    exec (.opSaw i) s = .next (s.respond
      (BitVec.ofInt 64 (applyEnv s.cfg (saw s.cfg (s.opAt i).osc.phase) (s.opAt i).adsr.env)) 0) :=
  onInstance_of_legal hrun hi _

theorem exec_opSquare (hrun : s.halted = false) (hi : i.toNat < s.cfg.nOp) :
    exec (.opSquare i) s = .next (s.respond
      (BitVec.ofInt 64 (applyEnv s.cfg (square s.cfg (s.opAt i).osc) (s.opAt i).adsr.env)) 0) :=
  onInstance_of_legal hrun hi _

theorem exec_opSine (hrun : s.halted = false) (hi : i.toNat < s.cfg.nOp) :
    exec (.opSine i) s = .next (s.respond
      (BitVec.ofInt 64 (applyEnv s.cfg (sine s.cfg (s.opAt i).osc.phase) (s.opAt i).adsr.env)) 0) :=
  onInstance_of_legal hrun hi _

end commands

/-! ### The statements -/

/-- Settles O42: the raw value of each wave is the one the oscillator's sampler gives. -/
theorem opSamplersApplyEnvelope : Obligations.OpSamplersApplyEnvelope := fun s i raw hrun hi hlegal => by
  refine ⟨decode_encode (.opSaw i), decode_encode (.opSquare i), decode_encode (.opSine i), fun hraw => ?saw,
    fun hraw => ?square, fun hraw => ?sine⟩
  case saw =>
    rw [exec_opSaw hrun hi, saw_eq_of_isSampleOf hlegal hraw, applyEnv_eq_fdiv]
    rfl
  case square =>
    rw [← square_eq] at hraw
    rw [exec_opSquare hrun hi, ← hraw, applyEnv_eq_fdiv]
    rfl
  case sine =>
    rw [exec_opSine hrun hi, ← hraw, applyEnv_eq_fdiv]
    rfl

/-- Settles O39: the envelope part answers exactly when the tick is in time. -/
theorem opTickAdvancesBothParts : Obligations.OpTickAdvancesBothParts := fun s i p ratio o hrun hi hp hratio ho => by
  obtain rfl := State.profileOp_of_getElem? hp
  obtain rfl := State.ratioOp_of_getElem? hratio
  obtain rfl := State.opAt_of_getElem? ho
  refine ⟨decode_encode (.opTick i), fun hinTime => ?inTime, fun hearly => ?early⟩
  case inTime =>
    obtain ⟨v, hv⟩ := Adsr.tick_of_inTime hinTime
    refine ⟨_, hv, rfl, ?_⟩
    rw [exec_opTick_of_ok hrun hi hv, ← Osc.tickMod_phase]
    rfl
  case early => exact exec_opTick_of_error hrun hi (Adsr.tick_of_early hearly)

/-- Settles O40: the envelope part answers a present event exactly when its deadline fits. -/
theorem opFeedEventLoadsNote : Obligations.OpFeedEventLoadsNote :=
    fun s i p o ev delta hrun hi hlegal hp ho hev hdelta => by
  subst hev
  obtain rfl := State.profileOp_of_getElem? hp
  obtain rfl := State.opAt_of_getElem? ho
  have htb := hlegal.tb_eq
  refine ⟨decode_encode (.opFeedEvent i), fun hvalid => ?absent, fun hvalid hfits => ?fed, fun hover => ?overflow⟩
  case absent =>
    rw [exec_opFeedEvent_of_absent hrun hi hvalid, State.setOp_of_getElem? ho]
    rfl
  case fed =>
    obtain ⟨e, he⟩ := Adsr.feed_of_fits htb hvalid hfits
    refine ⟨e, he, adsrFeed_env he, ?_⟩
    rw [exec_opFeedEvent_of_ok hrun hi hvalid he, freqEntry_of_getElem? hdelta]
    rfl
  case overflow =>
    obtain ⟨hvalid, -⟩ := feed_overflow_cases hover
    exact exec_opFeedEvent_of_error hrun hi hvalid (Adsr.feed_of_overflow htb hover)

/-- Settles O41: the operand is the one sample with the pattern in A. -/
theorem opSetInputLoadsSample : Obligations.OpSetInputLoadsSample := fun s i x hrun hi hw hx => by
  refine ⟨decode_encode (.opSetInput i), ?_⟩
  rw [exec_opSetInput hrun hi, sampleOperand_unique hw hx]
  rfl

end Sys2Proof.Machine
end

section
/-! The mixer's weights and MIX.MIX (45_mixer.md; O43 to O45). The order of R311 is a strict total order, so an index's
rank is its place `0 .. K-1` in it: exactly `D` ranks lie below `D`, and the weights sum to `SMAX`. From that sum, and
the weights not being negative, both facts about the mixed sample follow. -/

namespace Sys2Proof

/-! ### The order of R311 -/

/-- Index `k` stands before index `i`: its remainder is greater, or equal and `k` is lower (R311). -/
abbrev StandsBefore (r : List Int) (k i : Nat) : Prop :=
  r.getD i 0 < r.getD k 0 ∨ (r.getD k 0 = r.getD i 0 ∧ k < i)

section order
variable {r : List Int} {i j k d : Nat}

theorem StandsBefore.irrefl : ¬ StandsBefore r i i := by
  simp only [StandsBefore]
  omega

theorem StandsBefore.trans (h : StandsBefore r i j) (h' : StandsBefore r j k) : StandsBefore r i k := by
  simp only [StandsBefore] at *
  omega

theorem StandsBefore.total (r : List Int) (i k : Nat) : StandsBefore r i k ∨ i = k ∨ StandsBefore r k i := by
  simp only [StandsBefore]
  omega

/-- The rank is the number of indices that stand before. -/
theorem remainderRank_eq_card (r : List Int) (i : Nat) :
    remainderRank r i = ((Finset.range r.length).filter (StandsBefore r · i)).card := rfl

/-- The indices before `i` are among those before `k`, and `i` itself is one more. -/
theorem StandsBefore.rank_lt (hi : i < r.length) (h : StandsBefore r i k) :
    remainderRank r i < remainderRank r k := by
  rw [remainderRank_eq_card, remainderRank_eq_card]
  refine Finset.card_lt_card (Finset.ssubset_iff_of_subset ?_ |>.mpr ⟨i, ?_, ?_⟩)
  · exact Finset.monotone_filter_right _ fun _ _ hj => hj.trans h
  · exact Finset.mem_filter.mpr ⟨Finset.mem_range.mpr hi, h⟩
  · exact fun hmem => StandsBefore.irrefl (Finset.mem_filter.mp hmem).2

theorem standsBefore_of_rank_lt (hk : k < r.length) (h : remainderRank r i < remainderRank r k) :
    StandsBefore r i k := by
  rcases StandsBefore.total r i k with hik | rfl | hki
  · exact hik
  · exact absurd h (lt_irrefl _)
  · exact absurd h (hki.rank_lt hk).asymm

theorem remainderRank_lt_length (hi : i < r.length) : remainderRank r i < r.length := by
  rw [remainderRank_eq_card]
  have hssub : (Finset.range r.length).filter (StandsBefore r · i) ⊂ Finset.range r.length :=
    Finset.filter_ssubset.mpr ⟨i, Finset.mem_range.mpr hi, StandsBefore.irrefl⟩
  exact (Finset.card_lt_card hssub).trans_eq (Finset.card_range _)

theorem remainderRank_injOn (r : List Int) : Set.InjOn (remainderRank r) (Finset.range r.length) := by
  intro i hi k hk h
  rw [Finset.mem_coe, Finset.mem_range] at hi hk
  rcases StandsBefore.total r i k with hik | rfl | hki
  · exact absurd h (hik.rank_lt hi).ne
  · rfl
  · exact absurd h (hki.rank_lt hk).ne'

/-- Every place of the order is some index's rank. -/
theorem image_remainderRank (r : List Int) :
    (Finset.range r.length).image (remainderRank r) = Finset.range r.length := by
  refine Finset.eq_of_subset_of_card_le (fun m hm => ?_) ?_
  · obtain ⟨i, hi, rfl⟩ := Finset.mem_image.mp hm
    exact Finset.mem_range.mpr (remainderRank_lt_length (Finset.mem_range.mp hi))
  · rw [Finset.card_image_of_injOn (remainderRank_injOn r)]

/-- The first `d` indices of the order are `d` indices. -/
theorem card_remainderRank_lt (hd : d ≤ r.length) :
    ((Finset.range r.length).filter (remainderRank r · < d)).card = d := by
  have hinj := (remainderRank_injOn r).mono
    (Finset.coe_subset.mpr (Finset.filter_subset (remainderRank r · < d) (Finset.range r.length)))
  calc _ = (((Finset.range r.length).filter (remainderRank r · < d)).image (remainderRank r)).card :=
        (Finset.card_image_of_injOn hinj).symm
    _ = (((Finset.range r.length).image (remainderRank r)).filter (· < d)).card := by rw [Finset.filter_image]
    _ = (Finset.range d).card := by
        rw [image_remainderRank]
        congr 1
        ext m
        simp only [Finset.mem_filter, Finset.mem_range]
        omega
    _ = d := Finset.card_range d

end order

/-! ### Quotients and remainders -/

/-- The quotients `q` of R311. -/
def quotients (smax : Int) (levels : List Int) : List Int := levels.map fun x => smax * x / levels.sum

/-- The remainders `r` of R311. -/
def remainders (smax : Int) (levels : List Int) : List Int := levels.map fun x => smax * x % levels.sum

/-- `D` of R311: what the quotients leave of `SMAX`. -/
def leftover (smax : Int) (levels : List Int) : Int := smax - (quotients smax levels).sum

section weights
variable {smax : Int} {levels : List Int} {i k : Nat}

theorem largestRemainder_eq (smax : Int) (levels : List Int) :
    largestRemainder smax levels = (List.range levels.length).map fun i =>
      if (remainderRank (remainders smax levels) i : Int) < leftover smax levels then
        (quotients smax levels).getD i 0 + 1 else (quotients smax levels).getD i 0 := rfl

@[simp] theorem quotients_length : (quotients smax levels).length = levels.length := List.length_map _

@[simp] theorem remainders_length : (remainders smax levels).length = levels.length := List.length_map _

@[simp] theorem largestRemainder_length : (largestRemainder smax levels).length = levels.length := by
  rw [largestRemainder_eq, List.length_map, List.length_range]

theorem quotients_getD : (quotients smax levels).getD k 0 = smax * levels.getD k 0 / levels.sum := by
  simpa [quotients] using List.getD_map (l := levels) (d := 0) (n := k) fun x => smax * x / levels.sum

theorem remainders_getD : (remainders smax levels).getD k 0 = smax * levels.getD k 0 % levels.sum := by
  simpa [remainders] using List.getD_map (l := levels) (d := 0) (n := k) fun x => smax * x % levels.sum

/-- A weight is its quotient, and one more for the first `D` indices of the order. -/
theorem largestRemainder_getD (hk : k < levels.length) :
    (largestRemainder smax levels).getD k 0 = (quotients smax levels).getD k 0 +
      if (remainderRank (remainders smax levels) k : Int) < leftover smax levels then 1 else 0 := by
  rw [List.getD_eq_getElem _ _ (by rwa [largestRemainder_length])]
  simp only [largestRemainder_eq, List.getElem_map, List.getElem_range]
  split
  · rfl
  · exact (add_zero _).symm

theorem levels_sum_pos (hne : levels ≠ []) (hpos : ∀ x ∈ levels, 0 < x) : 0 < levels.sum :=
  List.sum_pos levels hpos hne

/-- Together the remainders make up `D` times the total. -/
theorem remainders_sum :
    (remainders smax levels).sum = leftover smax levels * levels.sum := by
  have hsplit : (quotients smax levels).sum * levels.sum + (remainders smax levels).sum = smax * levels.sum := by
    rw [quotients, remainders, ← List.sum_map_mul_right, ← List.sum_map_add]
    simp only [Int.ediv_mul_add_emod]
    rw [List.sum_map_mul_left, List.map_id']
  rw [leftover, sub_mul]
  omega

/-- `0 <= D <= K` (R311). -/
theorem leftover_between (hT : 0 < levels.sum) :
    0 ≤ leftover smax levels ∧ leftover smax levels ≤ levels.length := by
  have hsum := remainders_sum (smax := smax) (levels := levels)
  have hlow : 0 ≤ (remainders smax levels).sum := List.sum_nonneg fun x hx => by
    obtain ⟨y, -, rfl⟩ := List.mem_map.mp hx
    exact Int.emod_nonneg _ hT.ne'
  have hhigh : (remainders smax levels).sum ≤ levels.length * levels.sum := by
    simpa using List.sum_le_card_nsmul (remainders smax levels) levels.sum fun x hx => by
      obtain ⟨y, -, rfl⟩ := List.mem_map.mp hx
      exact (Int.emod_lt_of_pos _ hT).le
  rw [hsum] at hlow hhigh
  exact ⟨nonneg_of_mul_nonneg_left hlow hT, le_of_mul_le_mul_right hhigh hT⟩

theorem sum_eq_sum_range_getD (l : List Int) : l.sum = ∑ i ∈ Finset.range l.length, l.getD i 0 := by
  rw [Finset.sum_range, ← Fin.sum_univ_getElem]
  simp only [List.getD_eq_getElem _ _ (Fin.isLt _)]

theorem largestRemainder_sum (hT : 0 < levels.sum) : (largestRemainder smax levels).sum = smax := by
  obtain ⟨h0, hlen⟩ := leftover_between (smax := smax) hT
  obtain ⟨d, hd⟩ := Int.eq_ofNat_of_zero_le h0
  have hcard : ((Finset.range levels.length).filter (remainderRank (remainders smax levels) · < d)).card = d := by
    simpa using card_remainderRank_lt (r := remainders smax levels) (d := d) (by rw [remainders_length]; omega)
  calc (largestRemainder smax levels).sum
      = ∑ i ∈ Finset.range levels.length, ((quotients smax levels).getD i 0 +
          if remainderRank (remainders smax levels) i < d then 1 else 0) := by
        rw [sum_eq_sum_range_getD, largestRemainder_length]
        refine Finset.sum_congr rfl fun i hi => ?_
        simp only [largestRemainder_getD (Finset.mem_range.mp hi), hd, Nat.cast_lt]
    _ = (quotients smax levels).sum + leftover smax levels := by
        rw [Finset.sum_add_distrib, Finset.sum_boole, hcard, sum_eq_sum_range_getD, quotients_length, hd]
    _ = smax := add_sub_cancel _ _

theorem largestRemainder_nonneg (hsmax : 0 ≤ smax) (hpos : ∀ x ∈ levels, 0 < x) (hk : k < levels.length) :
    0 ≤ (largestRemainder smax levels).getD k 0 := by
  have hlevel : 0 < levels.getD k 0 := by
    rw [List.getD_eq_getElem _ _ hk]
    exact hpos _ (List.getElem_mem hk)
  have hq : 0 ≤ smax * levels.getD k 0 / levels.sum :=
    Int.ediv_nonneg (mul_nonneg hsmax hlevel.le) (List.sum_nonneg fun x hx => (hpos x hx).le)
  rw [largestRemainder_getD hk, quotients_getD]
  split <;> omega

theorem rank_lt_leftover_iff (hk : k < levels.length) :
    (remainderRank (remainders smax levels) k : Int) < leftover smax levels ↔
      (largestRemainder smax levels).getD k 0 = (quotients smax levels).getD k 0 + 1 := by
  rw [largestRemainder_getD hk]
  split <;> simp [*]

end weights

/-! ### A legal configuration's weights -/

section legal
variable {c : Config}

/-- There is a positive level for each of at least one input (R451 codes 5 and 10). -/
theorem Config.Legal.levels_pos (h : c.Legal) :
    1 ≤ c.k ∧ c.levels.length = c.k ∧ ∀ x ∈ c.levels, 0 < x := by
  obtain ⟨-, -, -, -, hmixer, -, -, -, -, hrest⟩ := h.checks
  simp only [Config.mixerLegal, Bool.and_eq_true, decide_eq_true_eq, List.all_eq_true] at hmixer
  simp only [Config.restLegal, Bool.and_eq_true, decide_eq_true_eq] at hrest
  tauto

theorem Config.Legal.smax_pos (h : c.Legal) : 0 < c.smax := by
  rcases h.w_cases with hw | hw | hw <;> rw [Config.smax, hw] <;> decide

theorem Config.Legal.weights_sum (h : c.Legal) : c.weights.sum = c.smax := by
  obtain ⟨hk, hlen, hpos⟩ := h.levels_pos
  exact largestRemainder_sum (levels_sum_pos (List.ne_nil_of_length_pos (by omega)) hpos)

end legal

end Sys2Proof

namespace Sys2Proof.Machine

/-! ### The mixed sample -/

section mixing
variable {c : Config} {x y : Nat → Int}

theorem weightAt_nonneg (h : c.Legal) {i : Nat} (hi : i < c.k) : 0 ≤ weightAt c i := by
  obtain ⟨-, hlen, hpos⟩ := h.levels_pos
  exact largestRemainder_nonneg h.smax_pos.le hpos (by omega)

theorem mixSum_eq_sum (c : Config) (x : Nat → Int) : mixSum c x = ∑ i ∈ Finset.range c.k, x i * weightAt c i := rfl

/-- Equal inputs are weighted by `SMAX` together (R310). -/
theorem mixSum_const (h : c.Legal) (a : Int) : mixSum c (fun _ => a) = a * c.smax := by
  obtain ⟨-, hlen, -⟩ := h.levels_pos
  rw [mixSum_eq_sum, ← Finset.mul_sum, ← h.weights_sum, sum_eq_sum_range_getD, Config.weights,
    largestRemainder_length, hlen]
  rfl

theorem mixSum_congr (h : ∀ i, i < c.k → x i = y i) : mixSum c x = mixSum c y := by
  rw [mixSum_eq_sum, mixSum_eq_sum]
  exact Finset.sum_congr rfl fun i hi => by rw [h i (Finset.mem_range.mp hi)]

theorem mixSum_mono (hlegal : c.Legal) (h : ∀ i, i < c.k → x i ≤ y i) : mixSum c x ≤ mixSum c y := by
  rw [mixSum_eq_sum, mixSum_eq_sum]
  refine Finset.sum_le_sum fun i hi => ?_
  have hi := Finset.mem_range.mp hi
  exact mul_le_mul_of_nonneg_right (h i hi) (weightAt_nonneg hlegal hi)

/-- The divisor `2^(W-1)` of R312 is `SMAX + 1`. -/
theorem mix_eq_div (c : Config) (x : Nat → Int) : mix c x = mixSum c x / (c.smax + 1) := by
  rw [mix, asr, Config.smax, sub_add_cancel]

/-- `SMAX^2 = (SMAX - 1) * (SMAX + 1) + 1`, so full-scale inputs fall one short of `SMAX` (R313). -/
theorem mix_smax (h : c.Legal) : mix c (fun _ => c.smax) = c.smax - 1 := by
  have hpos := h.smax_pos
  rw [mix_eq_div, mixSum_const h, Int.ediv_eq_iff_of_pos (by omega)]
  constructor <;> linarith

/-- Inputs at `SMIN = -(SMAX + 1)` mix to `-SMAX` (R312). -/
theorem mix_smin (h : c.Legal) : mix c (fun _ => c.smin) = -c.smax := by
  have hpos := h.smax_pos
  have hmin : c.smin = -(c.smax + 1) := by
    rw [Config.smin, Config.smax, sub_add_cancel]
  rw [mix_eq_div, mixSum_const h, hmin, neg_mul, ← mul_neg, Int.mul_ediv_cancel_left _ (by omega)]

theorem mix_mono (hlegal : c.Legal) (h : ∀ i, i < c.k → x i ≤ y i) : mix c x ≤ mix c y := by
  rw [mix_eq_div, mix_eq_div]
  exact Int.ediv_le_ediv (by have := hlegal.smax_pos; omega) (mixSum_mono hlegal h)

/-- A mix of samples lies between the mixes of the least and of the greatest sample (R312). -/
theorem mix_between (hlegal : c.Legal) (hx : ∀ i, i < c.k → c.IsSample (x i)) :
    -c.smax ≤ mix c x ∧ mix c x ≤ c.smax - 1 := by
  rw [← mix_smin hlegal, ← mix_smax hlegal]
  exact ⟨mix_mono hlegal fun i hi => (hx i hi).1, mix_mono hlegal fun i hi => (hx i hi).2⟩

end mixing

/-! ### The command -/

/-- A lane holds a sample as a bus does (R95). -/
theorem laneOperand_eq_sampleOperand (c : Config) (v : List Word32) (i : Nat) :
    laneOperand c v i = sampleOperand c ((v.getD i 0).setWidth 64) := by
  rw [laneOperand, sampleOperand, BitVec.toNat_setWidth_of_le (by decide)]

theorem laneOperand_unique {c : Config} (hw : 0 < c.w) {v : List Word32} {i : Nat} {y : Int}
    (h : IsSampleOf c (v.getD i 0).toNat y) : laneOperand c v i = y := by
  rw [laneOperand_eq_sampleOperand]
  refine sampleOperand_unique hw ?_
  rwa [BitVec.toNat_setWidth_of_le (by decide)]

theorem exec_mixMix {s : State} (hrun : s.halted = false) :
    exec .mixMix s = .next (s.respond (BitVec.ofInt 64 (mix s.cfg (laneOperand s.cfg s.v))) 0) :=
  unlessHalted_of_running hrun _

/-! ### The statements -/

/-- Settles O44: the weights that got one more are those of rank below `D`, so all stand before the others. -/
theorem weightsSumExactly : Obligations.WeightsSumExactly := by
  rintro smax levels _ q r hne hpos rfl rfl rfl
  refine ⟨largestRemainder_length, largestRemainder_sum (levels_sum_pos hne hpos), fun k hk => ?quotient,
    fun i k hi hk hmore hquot => ?order⟩
  case quotient =>
    rw [largestRemainder_getD hk, quotients_getD]
    split
    · exact .inr rfl
    · exact .inl (add_zero _)
  case order =>
    beta_reduce at hmore hquot ⊢
    rw [← quotients_getD, ← rank_lt_leftover_iff hi] at hmore
    have hnot : ¬ (remainderRank (remainders smax levels) k : Int) < leftover smax levels := by
      rw [rank_lt_leftover_iff hk, hquot, quotients_getD]
      omega
    have hrank : remainderRank (remainders smax levels) i < remainderRank (remainders smax levels) k := by omega
    have hbefore := standsBefore_of_rank_lt (by rwa [remainders_length]) hrank
    rw [StandsBefore, remainders_getD, remainders_getD] at hbefore
    exact hbefore.imp_right fun ⟨heq, hlt⟩ => ⟨heq.symm, hlt⟩

/-- Settles O43: the mix grows with every input, so the least and the greatest sample on all lanes bound it. -/
theorem mixIsWeightedSum : Obligations.MixIsWeightedSum := fun s x hrun hlegal hx => by
  have hmix : mix s.cfg (laneOperand s.cfg s.v) = mix s.cfg x := by
    rw [mix, mixSum_congr fun k hk => laneOperand_unique hlegal.w_pos (hx k hk), ← mix]
  obtain ⟨hlow, hhigh⟩ := mix_between hlegal fun k hk => (hx k hk).1
  refine ⟨decode_encode .mixMix, mix s.cfg x, asr_eq_fdiv _ _, hlow, hhigh, ?_⟩
  rw [exec_mixMix hrun, hmix]
  rfl

/-- Settles O45: largest-remainder weights sum exactly, and with that sum a full-scale mix is one division. -/
theorem fullScaleMixWithinOneStep : Obligations.FullScaleMixWithinOneStep := fun _ hlegal =>
  ⟨hlegal.weights_sum, mix_smax hlegal⟩

end Sys2Proof.Machine
end

section
/-! The I2S driver's commands (46_i2s.md section 2; O46 to O50). First the word a write pushes and what each push of a
mono write leaves, then one rule per command; the blocking writes are the others with the hold in front. -/

namespace Sys2Proof.Machine

/-! ### The word a write pushes -/

/-- `u_n` after `s_n` gives an n-bit pattern back (R11). -/
theorem uN_sN {n u : Nat} (hu : u < 2 ^ n) : uN n (sN n u) = u := by
  have hcongr : (u : Int) % 2 ^ n = sN n u % 2 ^ n := Int.emod_eq_emod_iff_emod_sub_eq_zero.mpr sN_congr
  have hlt : (u : Int) < 2 ^ n := by exact_mod_cast hu
  rw [uN, ← hcongr, Int.emod_eq_of_lt (Int.natCast_nonneg u) hlt, Int.toNat_natCast]

/-- The word of the command's operand is the low W bits of A, left-aligned (R73, R323). -/
theorem operandWord_toNat {s : State} (hw : s.cfg.w ≤ 32) :
    s.operandWord.toNat = s.a.toNat % 2 ^ s.cfg.w * 2 ^ (32 - s.cfg.w) := by
  rw [State.operandWord, txWord_toNat hw, sampleOperand, uN_sN (Nat.mod_lt _ (by positivity))]

theorem operandWord_eq {s : State} {w : Word32} (hlegal : s.cfg.Legal)
    (hw : w.toNat = s.a.toNat % 2 ^ s.cfg.w * 2 ^ (32 - s.cfg.w)) : s.operandWord = w := by
  have hle : s.cfg.w ≤ 32 := by
    have := hlegal.w_cases
    omega
  exact BitVec.eq_of_toNat_eq ((operandWord_toNat hle).trans hw.symm)

section driver
variable {s : State}

/-! ### Room for a word, and the two pushes of a mono write -/

theorem hasRoom_of_lt (h : s.txq.length < s.cfg.q) : s.hasRoom = true := decide_eq_true h

theorem hasRoom_of_le (h : s.cfg.q ≤ s.txq.length) : s.hasRoom = false := decide_eq_false (Nat.not_lt.mpr h)

theorem afterMonoPush_of_first (h : s.phase ≠ .second) : s.afterMonoPush = { s with phase := .second } := if_neg h

theorem afterMonoPush_of_second (h : s.phase = .second) : s.afterMonoPush = s.done := if_pos h

/-- The first push of a mono write leaves the second to come, whether or not its word was discarded. -/
theorem monoPush_of_first (h : s.phase ≠ .second) (w : Word32) :
    (s.push w).afterMonoPush = { s.push w with phase := .second } :=
  afterMonoPush_of_first (by rwa [State.push_phase])

/-- The second push completes the command. -/
theorem monoPush_of_second (h : s.phase = .second) (w : Word32) : (s.push w).afterMonoPush = (s.push w).done :=
  afterMonoPush_of_second (by rwa [State.push_phase])

/-! ### Responses -/

/-- A flag as a bit of a response. -/
theorem toNat_eq_ite {b : Bool} {p : Prop} [Decidable p] (h : b = true ↔ p) : b.toNat = if p then 1 else 0 := by
  cases b with
  | false => rw [if_neg fun hp => Bool.false_ne_true (h.mpr hp)]; rfl
  | true => rw [if_pos (h.mp rfl)]; rfl

/-- The gate is open when two words fit (R45). -/
theorem writable_iff : s.writable = true ↔ s.txq.length + 2 ≤ s.cfg.q := by
  rw [State.writable, decide_eq_true_iff, State.free, State.level]
  omega

/-- The sequencer is stalled at the start of a word not yet loaded, with nothing queued (R53). -/
theorem stalled_iff : s.stalled = true ↔ s.seq.half = false ∧ s.seq.j = 0 ∧ s.seq.loaded = false ∧ s.txq = [] := by
  simp [State.stalled, State.level, and_assoc]

/-- R0 of I2S.STATUS: no field reaches into another's bits while the level takes a byte (R97). -/
theorem driverResponse_eq (hlen : s.txq.length ≤ 255) :
    driverResponse s = BitVec.ofNat 64 (s.writable.toNat + 2 ^ 8 * s.txq.length + 2 ^ 16 * s.txover.toNat +
      2 ^ 17 * s.stalled.toNat) := by
  rw [driverResponse, layout, field_of_lt s.writable.toNat_lt,
    field_of_lt (show s.level < 2 ^ 8 from Nat.lt_succ_of_le hlen), field_of_lt s.txover.toNat_lt,
    field_of_lt s.stalled.toNat_lt]
  simp [State.level, add_assoc]

/-- R1 of I2S.STATUS (R97). -/
theorem sequencerResponse_eq (q : Sequencer) :
    sequencerResponse q = BitVec.ofNat 64 (q.bclk.toNat + 2 * q.ws.toNat + 2 ^ 2 * q.data.toNat +
      2 ^ 3 * q.ch.toNat + 2 ^ 8 * q.j.toNat + 2 ^ 13 * q.half.toNat + 2 ^ 14 * q.loaded.toNat) := by
  rw [sequencerResponse, layout, field_of_lt q.bclk.toNat_lt, field_of_lt q.ws.toNat_lt, field_of_lt q.data.toNat_lt,
    field_of_lt q.ch.toNat_lt, field_of_lt q.j.isLt, field_of_lt q.half.toNat_lt, field_of_lt q.loaded.toNat_lt]
  simp [add_assoc]

/-! ### One rule per command -/

theorem exec_i2sIsWritable (hrun : s.halted = false) :
    exec .i2sIsWritable s = .next (s.respond (zext64 s.writable.toNat) 0) := unlessHalted_of_running hrun _

theorem exec_i2sWrite (hrun : s.halted = false) : exec .i2sWrite s = .next (s.push s.operandWord).done :=
  unlessHalted_of_running hrun _

theorem exec_i2sWriteMono (hrun : s.halted = false) :
    exec .i2sWriteMono s = .next (s.push s.operandWord).afterMonoPush := unlessHalted_of_running hrun _

theorem exec_i2sStatus (hrun : s.halted = false) :
    exec .i2sStatus s = .next (s.respond (driverResponse s) (sequencerResponse s.seq)) :=
  unlessHalted_of_running hrun _

/-- With room the blocking write is the plain one (R325). -/
theorem exec_i2sWriteBlocking_of_room (hroom : s.hasRoom = true) :
    exec .i2sWriteBlocking s = exec .i2sWrite s := by
  simp only [exec, execI2sWriteBlocking, execI2sWrite, hroom, if_true]

/-- With room the blocking mono write is the plain one (R327). -/
theorem exec_i2sWriteMonoBlocking_of_room (hroom : s.hasRoom = true) :
    exec .i2sWriteMonoBlocking s = exec .i2sWriteMono s := by
  simp only [exec, execI2sWriteMonoBlocking, execI2sWriteMono, hroom, if_true]

/-- On a full queue the blocking write holds (R325). -/
theorem exec_i2sWriteBlocking_of_full (hrun : s.halted = false) (hfull : s.hasRoom = false) :
    exec .i2sWriteBlocking s = .next s := by
  simp only [exec, execI2sWriteBlocking, unlessHalted_of_running hrun, hfull, Bool.false_eq_true, if_false]

/-- On a full queue each push of the blocking mono write holds (R327). -/
theorem exec_i2sWriteMonoBlocking_of_full (hrun : s.halted = false) (hfull : s.hasRoom = false) :
    exec .i2sWriteMonoBlocking s = .next s := by
  simp only [exec, execI2sWriteMonoBlocking, unlessHalted_of_running hrun, hfull, Bool.false_eq_true, if_false]

end driver

/-! ### The statements -/

/-- Settles O46: the gate's bit is the answer. -/
theorem i2sIsWritableNeedsTwoSlots : Obligations.I2sIsWritableNeedsTwoSlots := fun s hrun => by
  refine ⟨decode_encode .i2sIsWritable, ?_⟩
  rw [exec_i2sIsWritable hrun, toNat_eq_ite writable_iff]
  split <;> rfl

/-- Settles O47: the push lands or sets TXOVER. -/
theorem i2sWritePushesOrDiscards : Obligations.I2sWritePushesOrDiscards := fun s w hrun hlegal hw => by
  rw [exec_i2sWrite hrun, operandWord_eq hlegal hw]
  refine ⟨decode_encode .i2sWrite, fun hlt => ?room, fun hle => ?full⟩
  case room => rw [State.push_of_room (hasRoom_of_lt hlt)]; rfl
  case full => rw [State.push_of_full (hasRoom_of_le hle)]; rfl

/-- Settles O49: two pushes, each landing or setting TXOVER, the first of which leaves the second to come. -/
theorem i2sWriteMonoPushesTwice : Obligations.I2sWriteMonoPushesTwice := fun s w hrun hlegal hw => by
  rw [exec_i2sWriteMono hrun, operandWord_eq hlegal hw]
  refine ⟨decode_encode .i2sWriteMono, fun hphase hlt => ?_, fun hphase hle => ?_, fun hphase hlt => ?_,
    fun hphase hle => ?_⟩
  · rw [monoPush_of_first hphase, State.push_of_room (hasRoom_of_lt hlt)]
  · rw [monoPush_of_first hphase, State.push_of_full (hasRoom_of_le hle)]
  · rw [monoPush_of_second hphase, State.push_of_room (hasRoom_of_lt hlt)]; rfl
  · rw [monoPush_of_second hphase, State.push_of_full (hasRoom_of_le hle)]; rfl

/-- Settles O48: with room the blocking writes are the plain ones, so O47 and O49 say what they push. -/
theorem i2sBlockingWritesHold : Obligations.I2sBlockingWritesHold := fun s w hrun hlegal hw => by
  obtain ⟨-, hwrite, -⟩ := i2sWritePushesOrDiscards s w hrun hlegal hw
  obtain ⟨-, hfirst, -, hsecond, -⟩ := i2sWriteMonoPushesTwice s w hrun hlegal hw
  refine ⟨decode_encode .i2sWriteBlocking, decode_encode .i2sWriteMonoBlocking, fun hlt => ?room, fun hle => ?full⟩
  case room =>
    rw [exec_i2sWriteBlocking_of_room (hasRoom_of_lt hlt), exec_i2sWriteMonoBlocking_of_room (hasRoom_of_lt hlt)]
    exact ⟨hwrite hlt, fun hphase => hfirst hphase hlt, fun hphase => hsecond hphase hlt⟩
  case full =>
    exact ⟨exec_i2sWriteBlocking_of_full hrun (hasRoom_of_le hle),
      exec_i2sWriteMonoBlocking_of_full hrun (hasRoom_of_le hle)⟩

/-- Settles O50: each response is the sum of its fields. -/
theorem i2sStatusShowsDriver : Obligations.I2sStatusShowsDriver := fun s hrun hlen => by
  refine ⟨decode_encode .i2sStatus, ?_⟩
  rw [exec_i2sStatus hrun, driverResponse_eq hlen, sequencerResponse_eq, toNat_eq_ite writable_iff,
    toNat_eq_ite stalled_iff]
  rfl

end Sys2Proof.Machine
end

section
/-! The sequencer's turns (46_i2s.md section 3): one rule per half of a bit-time, a whole word on the pins (O52), and
the wait for the first push after reset (O58). -/

namespace Sys2Proof.Machine

/-! ### One rule per half of a bit-time -/

section turns
variable {s : State}

/-- A running sequencer that does not wait for a word is enabled (R53, R330). -/
theorem seqEnabled_of_running (hrun : s.halted = false)
    (h : ¬ (s.seq.half = false ∧ s.seq.j = 0 ∧ s.seq.loaded = false ∧ s.txq = [])) : s.seqEnabled = true := by
  have hgo : s.stalled = false := by rwa [← stalled_iff, Bool.not_eq_true] at h
  rw [State.seqEnabled, hrun, hgo]
  rfl

theorem sequencerTurn_of_stalled (h : s.stalled = true) : s.sequencerTurn = s := by
  simp [State.sequencerTurn, State.seqEnabled, h]

/-- The second half of a bit-time (R331). -/
theorem sequencerTurn_of_half (hrun : s.halted = false) (hhalf : s.seq.half = true) :
    s.sequencerTurn = s.highHalf := by
  have hen : s.seqEnabled = true := seqEnabled_of_running hrun fun h => by simp [hhalf] at h
  simp [State.sequencerTurn, State.seqStep, hen, hhalf]

/-- The first half of a bit-time within a word (R331). -/
theorem sequencerTurn_of_loaded (hrun : s.halted = false) (hhalf : s.seq.half = false) (hloaded : s.seq.loaded = true) :
    s.sequencerTurn = s.lowHalf := by
  have hen : s.seqEnabled = true := seqEnabled_of_running hrun fun h => by simp [hloaded] at h
  simp [State.sequencerTurn, State.seqStep, State.loadWord, hen, hhalf, hloaded]

/-- The first half of a word's first bit-time, which takes the word off the queue (R321, R331). -/
theorem sequencerTurn_of_queued {w : Word32} {rest : List Word32} (hrun : s.halted = false)
    (hhalf : s.seq.half = false) (hj : s.seq.j = 0) (hloaded : s.seq.loaded = false) (hq : s.txq = w :: rest) :
    s.sequencerTurn = { s with txq := rest, seq := { s.seq with osr := w, loaded := true } }.lowHalf := by
  have hen : s.seqEnabled = true := seqEnabled_of_running hrun fun h => by simp [hq] at h
  simp [State.sequencerTurn, State.seqStep, State.loadWord, State.popToOsr, hen, hhalf, hj, hloaded, hq]

/-! ### The high half -/

@[simp] theorem highHalf_bclk (s : State) : s.highHalf.seq.bclk = true := by unfold State.highHalf; split <;> rfl

@[simp] theorem highHalf_data (s : State) : s.highHalf.seq.data = s.seq.data := by unfold State.highHalf; split <;> rfl

@[simp] theorem highHalf_ws (s : State) : s.highHalf.seq.ws = s.seq.ws := by unfold State.highHalf; split <;> rfl

@[simp] theorem highHalf_half (s : State) : s.highHalf.seq.half = false := by unfold State.highHalf; split <;> rfl

/-- Within a word only the bit index moves on (R331). -/
theorem highHalf_of_more (h : s.seq.j.toNat ≠ s.cfg.w - 1) :
    s.highHalf = { s with seq := { s.seq with bclk := true, half := false, j := s.seq.j + 1 } } := if_neg h

/-- After its last bit the word is over and the channels change (R331, R334). -/
theorem highHalf_of_last (h : s.seq.j.toNat = s.cfg.w - 1) :
    s.highHalf = { s with
      seq := { s.seq with bclk := true, half := false, j := 0, ch := !s.seq.ch, loaded := false } } := if_pos h

end turns

/-! ### A word on the pins -/

theorem seqRun_succ (n : Nat) (s : State) : seqRun (n + 1) s = (seqRun n s).sequencerTurn := by
  induction n generalizing s with
  | zero => rfl
  | succ n ih => exact ih s.sequencerTurn

/-- The block in the middle of bit-time `k` of the word `w`, the oldest of the queue of `s`: the bit and word-select are
on the pins and the bit clock is low (R331). -/
def State.sending (s : State) (w : Word32) (rest : List Word32) (k : Nat) : State :=
  { s with
    txq := rest
    seq := ⟨w, s.seq.ch, BitVec.ofNat 5 k, true, true, false, wsLevel s.cfg s.seq.ch (BitVec.ofNat 5 k),
      w.getLsbD (31 - k)⟩ }

/-- The bits of a word from the top down (R335). -/
theorem ofBits_topBits (w : Word32) {n : Nat} (hn : n ≤ 32) :
    ofBits ((List.range n).map fun k => w.getLsbD (31 - k)) = w.toNat / 2 ^ (32 - n) := by
  induction n with
  | zero => exact (Nat.div_eq_of_lt w.isLt).symm
  | succ n ih =>
    have hbit : (w.getLsbD (31 - n)).toNat = w.toNat / 2 ^ (31 - n) % 2 := by
      rw [← BitVec.testBit_toNat, Nat.toNat_testBit]
    have htop : w.toNat / 2 ^ (32 - n) = w.toNat / 2 ^ (31 - n) / 2 := by
      rw [Nat.div_div_eq_div_mul, ← pow_succ]
      congr 2
      omega
    rw [List.range_succ, List.map_append, ofBits, List.foldl_append, ← ofBits, ih (by omega), htop]
    show 2 * (w.toNat / 2 ^ (31 - n) / 2) + (w.getLsbD (31 - n)).toNat = w.toNat / 2 ^ (32 - (n + 1))
    rw [hbit, show 32 - (n + 1) = 31 - n by omega]
    omega

section word
variable {s : State} {w : Word32} {rest : List Word32} {k : Nat}

theorem bitIndex_toNat (hk : k < 32) : (BitVec.ofNat 5 k).toNat = k :=
  (BitVec.toNat_ofNat k 5).trans (Nat.mod_eq_of_lt hk)

/-- Word-select in bit-time `k` (R332). -/
theorem wsLevel_ofNat (c : Config) (ch : Bool) (hk : k < 32) :
    wsLevel c ch (BitVec.ofNat 5 k) = if c.wsLead = true ∧ k = c.w - 1 then !ch else ch := by
  rw [wsLevel, bitIndex_toNat hk]

/-- Two turns take the block from the middle of a bit-time to the middle of the word's next (R331). -/
theorem sending_succ (hrun : s.halted = false) (hw : s.cfg.w ≤ 32) (hk : k + 1 < s.cfg.w) :
    (s.sending w rest k).highHalf.sequencerTurn = s.sending w rest (k + 1) := by
  have hj : (s.sending w rest k).seq.j.toNat ≠ (s.sending w rest k).cfg.w - 1 := by
    show (BitVec.ofNat 5 k).toNat ≠ s.cfg.w - 1
    rw [bitIndex_toNat (by omega)]
    omega
  have hnext : BitVec.ofNat 5 k + 1 = BitVec.ofNat 5 (k + 1) := (BitVec.ofNat_add k 1).symm
  have hloaded : (s.sending w rest k).highHalf.seq.loaded = true := by rw [highHalf_of_more hj]; rfl
  have hhalted : (s.sending w rest k).highHalf.halted = false := (State.highHalf_halted _).trans hrun
  rw [sequencerTurn_of_loaded hhalted (highHalf_half _) hloaded, highHalf_of_more hj, State.lowHalf]
  simp only [State.sending, hnext, bitIndex_toNat (show k + 1 < 32 by omega)]

/-- The high half of the last bit-time ends the word (R331, R334). -/
theorem sending_last (hpos : 0 < s.cfg.w) (hw : s.cfg.w ≤ 32) :
    (s.sending w rest (s.cfg.w - 1)).highHalf = { s with
      txq := rest
      seq := { (s.sending w rest (s.cfg.w - 1)).seq with
        bclk := true, half := false, j := 0, ch := !s.seq.ch, loaded := false } } :=
  highHalf_of_last (s := s.sending w rest (s.cfg.w - 1)) (bitIndex_toNat (by omega))

/-- The block runs and is about to send its oldest word, `w` (R331). -/
structure AtWordStart (s : State) (w : Word32) (rest : List Word32) : Prop where
  running : s.halted = false
  width : s.cfg.w ≤ 32
  queue : s.txq = w :: rest
  half : s.seq.half = false
  j : s.seq.j = 0
  loaded : s.seq.loaded = false

/-- From a word's start the sequencer's first turn puts its first bit on the pins. -/
theorem AtWordStart.first_turn (h : AtWordStart s w rest) : s.sequencerTurn = s.sending w rest 0 := by
  rw [sequencerTurn_of_queued h.running h.half h.j h.loaded h.queue]
  simp only [State.lowHalf, State.sending, h.j]
  rfl

/-- By induction on the bit-times: after `2 * k + 1` turns the block is in the middle of bit-time `k`. -/
theorem AtWordStart.seqRun_odd (h : AtWordStart s w rest) (hk : k < s.cfg.w) :
    seqRun (2 * k + 1) s = s.sending w rest k := by
  induction k with
  | zero => exact h.first_turn
  | succ k ih =>
    have hturn : (s.sending w rest k).sequencerTurn = (s.sending w rest k).highHalf :=
      sequencerTurn_of_half h.running rfl
    calc seqRun (2 * (k + 1) + 1) s = (seqRun (2 * k + 1) s).sequencerTurn.sequencerTurn := by
          rw [← seqRun_succ, ← seqRun_succ]; rfl
      _ = s.sending w rest (k + 1) := by
          rw [ih (by omega), hturn, sending_succ h.running h.width hk]

theorem AtWordStart.seqRun_even (h : AtWordStart s w rest) (hk : k < s.cfg.w) :
    seqRun (2 * k + 2) s = (s.sending w rest k).highHalf := by
  rw [seqRun_succ, h.seqRun_odd hk]
  exact sequencerTurn_of_half h.running rfl

/-- A receiver collects the word's bits from the top down (R335). -/
theorem AtWordStart.receivedBits_eq (h : AtWordStart s w rest) :
    receivedBits s = (List.range s.cfg.w).map fun k => w.getLsbD (31 - k) :=
  List.map_congr_left fun k hk => by rw [h.seqRun_even (List.mem_range.mp hk), highHalf_data, State.sending]

/-- After `2 * W` turns the word is over. -/
theorem AtWordStart.seqRun_word (h : AtWordStart s w rest) (hpos : 0 < s.cfg.w) :
    seqRun (2 * s.cfg.w) s = (s.sending w rest (s.cfg.w - 1)).highHalf := by
  rw [show 2 * s.cfg.w = 2 * (s.cfg.w - 1) + 2 by omega]
  exact h.seqRun_even (by omega)

end word

/-- Settles O52: every odd turn puts a bit on the pins and every even one holds it, from the word's top bit down. -/
theorem serialWordRoundTrips : Obligations.SerialWordRoundTrips :=
  fun s x rest hrun hlegal hx hq hhalf hj hloaded => by
    have hpos := hlegal.w_pos
    have hw : s.cfg.w ≤ 32 := by
      have := hlegal.w_cases
      omega
    have h : AtWordStart s (txWord s.cfg x) rest := ⟨hrun, hw, hq, hhalf, hj, hloaded⟩
    obtain ⟨-, hsample⟩ := queueWordIsLeftAligned s.cfg x hlegal hx
    rw [h.receivedBits_eq, ofBits_topBits _ hw, h.seqRun_word hpos, sending_last hpos hw]
    refine ⟨by simp, hsample, fun k hk => ?_, rfl, rfl, rfl, rfl, rfl⟩
    rw [h.seqRun_odd hk, h.seqRun_even hk, highHalf_bclk, highHalf_data, highHalf_ws]
    exact ⟨rfl, rfl, rfl, wsLevel_ofNat s.cfg s.seq.ch (by omega), rfl⟩

/-! ### Before the first push -/

/-- The sequencer is as reset leaves it, and the block runs if there is a word to send (R452). -/
structure AwaitsWord (t : State) : Prop where
  seq : t.seq = Sequencer.reset
  running : t.txq ≠ [] → t.halted = false

theorem stalled_of_reset {t : State} (hseq : t.seq = Sequencer.reset) (hq : t.txq = []) : t.stalled = true :=
  stalled_iff.mpr ⟨by rw [hseq]; rfl, by rw [hseq]; rfl, by rw [hseq]; rfl, hq⟩

/-- No turn starts a sequencer that has had no word: only a push of the host's changes the queue (R330, R452). -/
theorem step_awaitsWord {s t : State} (hrun : s.halted = false) (hseq : s.seq = Sequencer.reset) (hq : s.txq = [])
    (ht : step s = .next t) : AwaitsWord t := by
  rcases step_next ht with ⟨-, rfl⟩ | ⟨ts, -, hhost⟩ | ⟨ts, -, rfl⟩ | ⟨ts, -, rfl⟩
  · exact ⟨hseq, fun _ => hrun⟩
  · exact ⟨hhost.seq.trans hseq, fun _ => hhost.halted.trans hrun⟩
  · rw [sequencerTurn_of_stalled (stalled_of_reset (t := { s with turns := ts }) hseq hq)]
    exact ⟨hseq, fun _ => hrun⟩
  · exact ⟨rfl, fun hne => absurd rfl hne⟩

/-- Settles O58: the pins are the reset sequencer's, and it is stalled exactly while the queue is empty. -/
theorem sequencerWaitsForFirstPush : Obligations.SequencerWaitsForFirstPush := by
  refine ⟨fun c hlegal => ⟨bne_eq_false_iff_eq.mpr hlegal, rfl, rfl⟩, fun s t hrun hseq hq ht => ?_⟩
  obtain ⟨hseq', hrun'⟩ := step_awaitsWord hrun hseq hq ht
  refine ⟨hseq', by rw [State.sideOutput, hseq']; rfl, by rw [hseq']; rfl, fun hempty => ?empty, fun hne => ?pushed⟩
  case empty => exact ⟨stalled_of_reset hseq' hempty, sequencerTurn_of_stalled (stalled_of_reset hseq' hempty)⟩
  case pushed =>
    exact ⟨seqEnabled_of_running (hrun' hne) fun ⟨_, _, _, hempty⟩ => hne hempty, by rw [hseq']; rfl⟩

end Sys2Proof.Machine
end

section
/-! A blocking write on a weakly fair schedule (R325, R327, R470; O60). While the queue is full the sequencer is enabled
and each of its turns brings it nearer to taking the next word; once there is room it stays until the host's next turn,
which pushes. -/

namespace Sys2Proof.Machine

/-! ### The blocking writes on the port -/

/-- The command word is one of the two blocking writes (R325, R327). -/
def IsBlockingWrite (w : CmdWord) : Prop :=
  decode w = .ok .i2sWriteBlocking ∨ decode w = .ok .i2sWriteMonoBlocking

section hold
variable {t : State}

/-- On a full queue a turn of the host is used up with no effect (R325, R327; log 8). -/
theorem hostTurn_of_full (hblock : IsBlockingWrite t.cmd) (hbusy : t.phase ≠ .idle) (hrun : t.halted = false)
    (hfull : t.hasRoom = false) : t.hostTurn = .next t := by
  rw [hostTurn_of_busy hbusy]
  rcases hblock with hdec | hdec <;> rw [perform_of_decode hdec]
  · exact exec_i2sWriteBlocking_of_full hrun hfull
  · exact exec_i2sWriteMonoBlocking_of_full hrun hfull

/-- With room a turn of the host pushes and discards nothing: it completes the command, or is the first of a mono
write's two pushes (R325, R327). -/
theorem hostTurn_of_room (hblock : IsBlockingWrite t.cmd) (hbusy : t.phase ≠ .idle) (hrun : t.halted = false)
    (hroom : t.hasRoom = true) :
    ∃ u, t.hostTurn = .next u ∧ u.txover = t.txover ∧ (u.phase = .idle ∨ (t.phase ≠ .second ∧ u.phase = .second)) := by
  rw [hostTurn_of_busy hbusy]
  have hover : (t.push t.operandWord).txover = t.txover := by rw [State.push_of_room hroom]
  rcases hblock with hdec | hdec <;> rw [perform_of_decode hdec]
  · rw [exec_i2sWriteBlocking_of_room hroom, exec_i2sWrite hrun]
    exact ⟨_, rfl, hover, .inl rfl⟩
  · rw [exec_i2sWriteMonoBlocking_of_room hroom, exec_i2sWriteMono hrun]
    refine ⟨_, rfl, (State.afterMonoPush_txover _).trans hover, ?_⟩
    by_cases hphase : t.phase = .second
    · exact .inl (by rw [monoPush_of_second hphase]; rfl)
    · exact .inr ⟨hphase, by rw [monoPush_of_first hphase]⟩

/-! ### How near the sequencer is to the next word -/

/-- The sequencer's turns until the word being sent is over, 0 between words. -/
def State.turnsLeft (s : State) : Nat := if s.seq.loaded then 2 * (s.cfg.w - s.seq.j.toNat) - s.seq.half.toNat else 0

/-- With a word queued a turn of the sequencer takes it or brings the end of the word being sent nearer (R331). -/
theorem sequencerTurn_progress (h : t.wf) (hrun : t.halted = false) (hq : t.txq ≠ []) :
    (∃ w, t.txq = w :: t.sequencerTurn.txq) ∨ t.sequencerTurn.turnsLeft < t.turnsLeft := by
  obtain ⟨-, -, hj, hloaded, -⟩ := h.queueSeq
  have hpos := (h.legal hrun).w_pos
  have hw := (h.legal hrun).w_cases
  cases hhalf : t.seq.half with
  | true =>
    have hl : t.seq.loaded = true := by simpa [hhalf] using hloaded
    right
    rw [sequencerTurn_of_half hrun hhalf]
    by_cases hlast : t.seq.j.toNat = t.cfg.w - 1
    · rw [highHalf_of_last hlast]
      simp only [State.turnsLeft, hl, hhalf, hlast, Bool.false_eq_true, if_true, if_false, Bool.toNat_true]
      omega
    · rw [highHalf_of_more hlast]
      have hnext : (t.seq.j + 1).toNat = t.seq.j.toNat + 1 := by
        rw [BitVec.toNat_add]
        exact Nat.mod_eq_of_lt (show t.seq.j.toNat + 1 < 2 ^ 5 by omega)
      simp only [State.turnsLeft, hl, hhalf, hnext, if_true, Bool.toNat_true, Bool.toNat_false]
      omega
  | false =>
    cases hl : t.seq.loaded with
    | true =>
      right
      rw [sequencerTurn_of_loaded hrun hhalf hl]
      simp only [State.turnsLeft, State.lowHalf, hl, hhalf, if_true, Bool.toNat_true, Bool.toNat_false]
      omega
    | false =>
      obtain ⟨w, rest, hcons⟩ := List.exists_cons_of_ne_nil hq
      left
      obtain ⟨hstart, -⟩ := hloaded.mp hl
      rw [sequencerTurn_of_queued hrun hhalf hstart hl hcons]
      exact ⟨w, hcons⟩

end hold

/-! ### The hold -/

/-- The command of `s` is still on the port in phase `p`, a blocking write; nothing was issued or discarded since. -/
structure Holding (s : State) (p : Phase) (t : State) : Prop where
  wf : t.wf
  running : t.halted = false
  phase : t.phase = p
  busy : p ≠ .idle
  blocking : IsBlockingWrite s.cmd
  cmd : t.cmd = s.cmd
  todo : t.todo = s.todo
  txover : t.txover = s.txover

/-- The command of `s` is complete, before any later one and with nothing discarded. -/
def WriteDone (s t : State) : Prop := t.phase = .idle ∧ t.cmd = s.cmd ∧ t.todo = s.todo ∧ t.txover = s.txover

section holding
variable {s t : State} {p : Phase}

theorem Holding.withTurns (h : Holding s p t) (ts : List Turn) : Holding s p { t with turns := ts } := { h with }

theorem Holding.sequencerTurn (h : Holding s p t) : Holding s p t.sequencerTurn where
  wf := h.wf.sequencerTurn
  running := t.sequencerTurn_halted.trans h.running
  phase := t.sequencerTurn_phase.trans h.phase
  busy := h.busy
  blocking := h.blocking
  cmd := t.sequencerTurn_cmd.trans h.cmd
  todo := t.sequencerTurn_todo.trans h.todo
  txover := t.sequencerTurn_txover.trans h.txover

/-- A full queue is not empty, as a legal one has room for two words (R6). -/
theorem Holding.txq_ne_nil (h : Holding s p t) (hfull : t.hasRoom = false) : t.txq ≠ [] := fun hempty => by
  obtain ⟨-, -, -, -, -, -, -, -, ⟨hcap, -⟩, -⟩ := (h.wf.legal h.running).checks
  simp [State.hasRoom, hempty] at hfull
  omega

theorem Holding.seqEnabled (h : Holding s p t) (hfull : t.hasRoom = false) : t.seqEnabled = true :=
  seqEnabled_of_running h.running fun ⟨_, _, _, hempty⟩ => h.txq_ne_nil hfull hempty

/-- A turn of the sequencer leaves the room there is (R321). -/
theorem hasRoom_sequencerTurn (hroom : t.hasRoom = true) : t.sequencerTurn.hasRoom = true := by
  obtain ⟨q, u, e, hq⟩ := sequencerTurn_changes t
  rw [e]
  rw [State.hasRoom, decide_eq_true_iff] at hroom
  refine hasRoom_of_lt (show q.length < t.cfg.q from ?_)
  rcases hq with rfl | ⟨w, hq⟩
  · exact hroom
  · rw [hq, List.length_cons] at hroom
    omega

/-- On a full queue a turn of the sequencer makes room or brings the end of its word nearer. -/
theorem Holding.sequencerTurn_full (h : Holding s p t) (hfull : t.hasRoom = false) :
    t.sequencerTurn.hasRoom = true ∨ t.sequencerTurn.turnsLeft < t.turnsLeft := by
  refine (sequencerTurn_progress h.wf h.running (h.txq_ne_nil hfull)).imp_left fun ⟨w, hq⟩ => ?_
  obtain ⟨hlen, -⟩ := h.wf.queueSeq
  rw [hq, List.length_cons] at hlen
  exact hasRoom_of_lt (by rwa [State.sequencerTurn_cfg])

theorem Holding.hostTurn_full (h : Holding s p t) (hfull : t.hasRoom = false) : t.hostTurn = .next t :=
  hostTurn_of_full (h.cmd ▸ h.blocking) (h.phase ▸ h.busy) h.running hfull

/-- With room the host's turn completes the write, or goes on to the second push of a mono write. -/
theorem Holding.hostTurn_room (h : Holding s p t) (hroom : t.hasRoom = true) :
    ∃ u, t.hostTurn = .next u ∧ (WriteDone s u ∨ (p ≠ .second ∧ Holding s .second u)) := by
  have hbusy : t.phase ≠ .idle := h.phase ▸ h.busy
  obtain ⟨u, hu, hover, hphase⟩ := hostTurn_of_room (h.cmd ▸ h.blocking) hbusy h.running hroom
  have hframe := perform_framed t u ((hostTurn_of_busy hbusy).symm.trans hu)
  refine ⟨u, hu, hphase.imp (fun hidle => ?_) fun ⟨hfirst, hsecond⟩ => ⟨h.phase ▸ hfirst, ?_⟩⟩
  · exact ⟨hidle, hframe.cmd.trans h.cmd, hframe.todo.trans h.todo, hover.trans h.txover⟩
  · exact ⟨hostTurn_leadsToWf h.wf u hu, hframe.halted.trans h.running, hsecond, nofun, h.blocking,
      hframe.cmd.trans h.cmd, hframe.todo.trans h.todo, hover.trans h.txover⟩

end holding

/-! ### Runs along a schedule -/

section runs
variable {turn : Nat → Turn} {s t : State} {n : Nat}

/-- What every turn but those of `who` keeps lasts while `who` has none. -/
theorem runAlong_keeps {who : Turn} {P : State → Prop}
    (hkeep : ∀ k u, turn k ≠ who → P u → ∃ v, step { u with turns := [turn k] } = .next v ∧ P v)
    (hn : runAlong turn s n = .next t) (ht : P t) {m : Nat} (hm : n ≤ m)
    (hnone : ∀ k, n ≤ k → k < m → turn k ≠ who) : ∃ u, runAlong turn s m = .next u ∧ P u := by
  induction m, hm using Nat.le_induction with
  | base => exact ⟨t, hn, ht⟩
  | succ m hm ih =>
    obtain ⟨u, hu, hP⟩ := ih fun k hk hlt => hnone k hk (hlt.trans m.lt_succ_self)
    obtain ⟨v, hv, hP'⟩ := hkeep m u (hnone m hm m.lt_succ_self) hP
    exact ⟨v, (runAlong_succ hu).trans hv, hP'⟩

/-- It lasts until the next turn of `who`, if there is one. -/
theorem runAlong_reaches {who : Turn} {P : State → Prop}
    (hkeep : ∀ k u, turn k ≠ who → P u → ∃ v, step { u with turns := [turn k] } = .next v ∧ P v)
    (hn : runAlong turn s n = .next t) (ht : P t) (hwho : ∃ m, n ≤ m ∧ turn m = who) :
    ∃ m u, turn m = who ∧ runAlong turn s m = .next u ∧ P u := by
  obtain ⟨hm, hturn⟩ := Nat.find_spec hwho
  obtain ⟨u, hu, hP⟩ := runAlong_keeps hkeep hn ht hm fun k hk hlt e => Nat.find_min hwho hlt ⟨hk, e⟩
  exact ⟨_, u, hturn, hu, hP⟩

theorem runAlong_host (hn : runAlong turn s n = .next t) (hturn : turn n = .host) :
    runAlong turn s (n + 1) = { t with turns := [] }.hostTurn := by
  rw [runAlong_succ hn, hturn]
  rfl

theorem runAlong_sequencer (hn : runAlong turn s n = .next t) (hturn : turn n = .sequencer) :
    runAlong turn s (n + 1) = .next { t with turns := [] }.sequencerTurn := by
  rw [runAlong_succ hn, hturn]
  rfl

variable {p : Phase} (hreset : ∀ n, turn n ≠ .reset)
include hreset

/-- While the queue is full, only the sequencer's turns change anything. -/
theorem holding_full_keeps (l k : Nat) (u : State) (hk : turn k ≠ .sequencer)
    (hu : Holding s p u ∧ u.hasRoom = false ∧ u.turnsLeft = l) :
    ∃ v, step { u with turns := [turn k] } = .next v ∧ Holding s p v ∧ v.hasRoom = false ∧ v.turnsLeft = l := by
  obtain ⟨hhold, hfull, hleft⟩ := hu
  cases hturn : turn k with
  | host => exact ⟨_, (hhold.withTurns []).hostTurn_full hfull, hhold.withTurns [], hfull, hleft⟩
  | sequencer => exact absurd hturn hk
  | reset => exact absurd hturn (hreset k)

/-- Room once made stays until the host's turn. -/
theorem holding_room_keeps (k : Nat) (u : State) (hk : turn k ≠ .host) (hu : Holding s p u ∧ u.hasRoom = true) :
    ∃ v, step { u with turns := [turn k] } = .next v ∧ Holding s p v ∧ v.hasRoom = true := by
  obtain ⟨hhold, hroom⟩ := hu
  cases hturn : turn k with
  | host => exact absurd hturn hk
  | sequencer =>
    exact ⟨_, rfl, (hhold.withTurns []).sequencerTurn, hasRoom_sequencerTurn (t := { u with turns := [] }) hroom⟩
  | reset => exact absurd hturn (hreset k)

/-- A fair schedule gives the sequencer a turn while the queue is full, since that keeps it enabled (R470). -/
theorem Holding.sequencer_recurs (h : Holding s p t) (hfull : t.hasRoom = false) (hn : runAlong turn s n = .next t)
    (hfair : WeaklyFair turn s) : ∃ m, n ≤ m ∧ turn m = .sequencer := by
  by_contra hnever
  refine hnever (hfair n fun m hm => ?_)
  obtain ⟨u, hu, hhold, hfull', -⟩ := runAlong_keeps (holding_full_keeps hreset t.turnsLeft) hn ⟨h, hfull, rfl⟩ hm
    fun k hk _ e => hnever ⟨k, hk, e⟩
  exact ⟨u, hu, hhold.seqEnabled hfull'⟩

/-- By induction on the turns left of the word being sent: a fair schedule makes room. -/
theorem Holding.reaches_room (hfair : WeaklyFair turn s) (h : Holding s p t) (hn : runAlong turn s n = .next t) :
    ∃ m u, runAlong turn s m = .next u ∧ Holding s p u ∧ u.hasRoom = true := by
  induction hl : t.turnsLeft using Nat.strong_induction_on generalizing n t with
  | _ l ih =>
    cases hroom : t.hasRoom with
    | true => exact ⟨n, t, hn, h, hroom⟩
    | false =>
      obtain ⟨m, u, hturn, hu, hhold, hfull, hleft⟩ := runAlong_reaches (holding_full_keeps hreset l) hn ⟨h, hroom, hl⟩
        (h.sequencer_recurs hreset hroom hn hfair)
      have hm := runAlong_sequencer hu hturn
      have hheld := hhold.withTurns []
      rcases hheld.sequencerTurn_full hfull with hroom' | hless
      · exact ⟨m + 1, _, hm, hheld.sequencerTurn, hroom'⟩
      · exact ih _ (hleft ▸ hless) hheld.sequencerTurn hm rfl

/-- A fair schedule that keeps giving the host turns comes to a push. -/
theorem Holding.reaches_push (hfair : WeaklyFair turn s) (hhost : ∀ n, ∃ m, n ≤ m ∧ turn m = .host)
    (h : Holding s p t) (hn : runAlong turn s n = .next t) :
    ∃ m u, runAlong turn s m = .next u ∧ (WriteDone s u ∨ (p ≠ .second ∧ Holding s .second u)) := by
  obtain ⟨k, u, hu, hhold, hroom⟩ := h.reaches_room hreset hfair hn
  obtain ⟨m, v, hturn, hv, hhold', hroom'⟩ := runAlong_reaches (holding_room_keeps hreset) hu ⟨hhold, hroom⟩ (hhost k)
  obtain ⟨r, hr, hpush⟩ := (hhold'.withTurns []).hostTurn_room hroom'
  exact ⟨m + 1, r, (runAlong_host hv hturn).trans hr, hpush⟩

end runs

/-- Settles O60: one push completes the write, or leaves the second push of a mono write, and that one completes it. -/
theorem fairSequencerLiftsHold : Obligations.FairSequencerLiftsHold :=
  fun turn s hwf hrun hbusy hblock hfair hhost hreset => by
    have hhold : Holding s s.phase s := ⟨hwf, hrun, rfl, hbusy, hblock, rfl, rfl, rfl⟩
    obtain ⟨n, t, hn, hdone | ⟨-, hsecond⟩⟩ := hhold.reaches_push hreset hfair hhost (runAlong_zero turn s)
    · exact ⟨n, t, hn, hdone⟩
    · obtain ⟨m, u, hm, hdone | ⟨hne, -⟩⟩ := hsecond.reaches_push hreset hfair hhost hn
      · exact ⟨m, u, hm, hdone⟩
      · exact absurd rfl hne

end Sys2Proof.Machine
end

section
/-! How a command can end (47_system.md, 60_exceptions.md; O5 to O8, O54, O59). Every command but SYS.STATUS is its own
rule behind the two checks of R405, and a rule stops the machine only for a command with a host contract
(`exec_isGuarded`). The halted block, the illegal command and the four commands that fault are read off this one fact,
and from it a step, hence a run, without contract commands goes on. -/

namespace Sys2Proof.Machine

/-! ### The checks every command passes first (R405) -/

/-- The rule leads to a next state, or it is that of a command with a host contract and faults (R402). -/
def StopsOnlyByContract (i : Instr) (rule : Out) : Prop :=
  (∃ t, rule = .next t) ∨ (hasContract i = true ∧ ∃ f, rule = .fault f)

/-- The command is a rule of its own behind the checks of R405. -/
def IsGuarded (i : Instr) (s : State) : Prop :=
  ∃ rule, exec i s = onInstance (i.unitCount s.cfg) i.inst s rule ∧ StopsOnlyByContract i rule

section commands
variable {i : Instr} {s : State}

theorem isGuarded_next {t : State} (h : exec i s = onInstance (i.unitCount s.cfg) i.inst s (.next t)) :
    IsGuarded i s := ⟨_, h, .inl ⟨t, rfl⟩⟩

/-- In a unit of which there is one the second check always passes (R94). -/
theorem isGuarded_of_single {t : State} (hunit : i.inst.toNat < i.unitCount s.cfg)
    (h : exec i s = unlessHalted s (.next t)) : IsGuarded i s :=
  isGuarded_next (t := t) (by rw [h, onInstance, if_pos hunit])

theorem isGuarded_completeOr {r : Except Fault State} (hcontract : hasContract i = true)
    (h : exec i s = onInstance (i.unitCount s.cfg) i.inst s (completeOr r)) : IsGuarded i s := by
  refine ⟨_, h, ?_⟩
  cases r with
  | ok u => exact .inl ⟨u.done, rfl⟩
  | error f => exact .inr ⟨hcontract, f, rfl⟩

/-- Every command but SYS.STATUS passes the checks of R405 before its own rule. -/
theorem exec_isGuarded (s : State) (hne : i ≠ .sysStatus) : IsGuarded i s := by
  cases i with
  | sysStatus => exact absurd rfl hne
  | oscTick i | oscSetFreq i | oscSetDelta i | oscTickMod i | oscSaw i | oscSquare i | oscSine i | oscRead i
  | gfSample i | gfRead i | qdSample i | qdRead i | adsrApply i | adsrRead i | opSetInput i | opSaw i | opSquare i
  | opSine i | opRead i => exact isGuarded_next rfl
  | kpScanStep | kpGetEvent | kpRead | mixMix | i2sIsWritable | i2sWrite | i2sWriteBlocking | i2sWriteMono
  | i2sWriteMonoBlocking | i2sStatus => exact isGuarded_of_single Nat.one_pos rfl
  | adsrFeed i | adsrTick i | opTick i | opFeedEvent i => exact isGuarded_completeOr rfl rfl

/-- While HALTED a command other than SYS.STATUS completes with 0 and does nothing (R403). -/
theorem exec_of_halted (hne : i ≠ .sysStatus) (hhalted : s.halted = true) : exec i s = .next s.done := by
  obtain ⟨rule, h, -⟩ := exec_isGuarded s hne
  rw [h, onInstance_of_halted hhalted]

/-- A command on a copy of a unit that does not exist is illegal (R94, R99, R400). -/
theorem exec_of_not_wellFormed (hrun : s.halted = false) (hwf : ¬ i.wellFormed s.cfg = true) :
    exec i s = .next s.raiseIllegal := by
  have hcount : i.unitCount s.cfg ≤ i.inst.toNat := by simpa [Instr.wellFormed] using hwf
  have hne : i ≠ .sysStatus := fun e => by simp [e, Instr.wellFormed, Instr.inst, Instr.unitCount] at hwf
  obtain ⟨rule, h, -⟩ := exec_isGuarded s hne
  rw [h, onInstance_of_illegal hrun hcount]

/-- How a command can end: it goes on, or it violates its host contract on a copy of its unit that exists (R402,
R405). -/
theorem exec_cases (i : Instr) (s : State) :
    (∃ t, exec i s = .next t) ∨
      (hasContract i = true ∧ s.halted = false ∧ i.wellFormed s.cfg = true ∧ ∃ f, exec i s = .fault f) := by
  by_cases hne : i = .sysStatus
  · exact .inl ⟨_, by rw [hne]; rfl⟩
  cases hrun : s.halted with
  | true => exact .inl ⟨_, exec_of_halted hne hrun⟩
  | false =>
    by_cases hwf : i.wellFormed s.cfg = true
    · obtain ⟨rule, h, hstop⟩ := exec_isGuarded s hne
      rw [onInstance_of_legal hrun (of_decide_eq_true hwf)] at h
      rw [h]
      exact hstop.imp_right fun ⟨hcontract, hfault⟩ => ⟨hcontract, rfl, hwf, hfault⟩
    · exact .inl ⟨_, exec_of_not_wellFormed hrun hwf⟩

/-- Settles O7: a command that stops is one that violates its host contract. -/
theorem onlyContractCommandsStop : Obligations.OnlyContractCommandsStop := fun i s => by
  rcases exec_cases i s with ⟨t, h⟩ | ⟨hcontract, hrun, hwf, f, h⟩ <;> rw [h]
  · exact ⟨nofun, nofun⟩
  · exact ⟨nofun, fun _ _ => ⟨hcontract, hrun, hwf⟩⟩

end commands

/-! ### SYS.STATUS -/

/-- R0 of SYS.STATUS: no field reaches into another's bits (R97). -/
theorem systemResponse_eq (s : State) :
    systemResponse s = BitVec.ofNat 64 (s.illegal.toNat + 2 * s.halted.toNat + 2 ^ 8 * s.cfgErr.toNat) := by
  rw [systemResponse, layout, field_of_lt s.illegal.toNat_lt, field_of_lt s.halted.toNat_lt,
    field_of_lt s.cfgErr.isLt]
  simp [add_assoc]

theorem exec_sysStatus (s : State) :
    exec .sysStatus s = .next (s.respond
      (BitVec.ofNat 64 (s.illegal.toNat + 2 * s.halted.toNat + 2 ^ 8 * s.cfgErr.toNat)) 0) := by
  rw [← systemResponse_eq]
  rfl

/-- Settles O54: SYS.STATUS passes no check, so HALTED makes no difference. -/
theorem sysStatusReportsErrors : Obligations.SysStatusReportsErrors := fun s =>
  ⟨decode_encode .sysStatus, exec_sysStatus s⟩

/-! ### The word on the port -/

section perform
variable {s t : State}

theorem perform_of_error {e : DecodeError} (hdec : decode s.cmd = .error e) : s.perform = .next s.rejectWord := by
  simp only [State.perform, hdec]

theorem rejectWord_of_halted (hhalted : s.halted = true) : s.rejectWord = s.done := if_pos hhalted

theorem rejectWord_of_running (hrun : s.halted = false) : s.rejectWord = s.raiseIllegal := by
  rw [State.rejectWord, hrun]
  rfl

/-- An illegal word sets ILLEGAL, whether it stands for no command or for one on a copy of a unit that does not exist
(R99, R400). -/
theorem perform_of_illegalWord (hrun : s.halted = false) (hill : illegalWord s.cfg s.cmd) :
    s.perform = .next s.raiseIllegal := by
  cases hdec : decode s.cmd with
  | ok i =>
    rw [(decodeInvertsEncode i s.cmd).mp hdec, illegalWord_encode] at hill
    rw [perform_of_decode hdec, exec_of_not_wellFormed hrun hill]
  | error e => rw [perform_of_error hdec, rejectWord_of_running hrun]

/-- While HALTED any word on the port only drives the response buses (R403). -/
theorem perform_of_halted (hhalted : s.halted = true) : ∃ r0 r1, s.perform = .next (s.respond r0 r1) := by
  cases hdec : decode s.cmd with
  | ok i =>
    rw [perform_of_decode hdec]
    by_cases hne : i = .sysStatus
    · exact ⟨_, _, hne ▸ exec_sysStatus s⟩
    · exact ⟨0, 0, exec_of_halted hne hhalted⟩
  | error e => exact ⟨0, 0, by rw [perform_of_error hdec, rejectWord_of_halted hhalted]; rfl⟩

/-- A turn of the host leaves the state as it is, or is one host step of the next command or of the one on the port
(R80, R90). -/
theorem hostTurn_cases (s : State) :
    s.hostTurn = .next s ∨ (∃ c rest, s.todo = c :: rest ∧ s.hostTurn = (s.issue c rest).perform) ∨
      s.hostTurn = s.perform := by
  by_cases hidle : s.phase = .idle
  · cases htodo : s.todo with
    | nil => exact .inl (hostTurn_idle_nil hidle htodo)
    | cons c rest => exact .inr (.inl ⟨c, rest, rfl, hostTurn_idle_cons hidle htodo⟩)
  · exact .inr (.inr (hostTurn_of_busy hidle))

/-- The host puts no word into a halted block's queue. -/
theorem hostTurn_txq_of_halted (hhalted : s.halted = true) (ht : s.hostTurn = .next t) : t.txq = s.txq := by
  have hport {u : State} (hu : u.halted = true) (hperform : u.perform = .next t) : t.txq = u.txq := by
    obtain ⟨r0, r1, h⟩ := perform_of_halted hu
    cases h.symm.trans hperform
    rfl
  rcases hostTurn_cases s with h | ⟨c, rest, -, h⟩ | h <;> rw [h] at ht
  · cases ht
    rfl
  · exact hport (u := s.issue c rest) hhalted ht
  · exact hport hhalted ht

theorem sequencerTurn_of_halted (hhalted : s.halted = true) : s.sequencerTurn = s := by
  simp [State.sequencerTurn, State.seqEnabled, hhalted]

/-- Every turn but a reset leaves a halted block halted, its sequencer and its queue as they are (R403). -/
theorem step_of_halted (hhalted : s.halted = true) (hreset : s.turns.head? ≠ some .reset) (ht : step s = .next t) :
    t.halted = true ∧ t.seq = s.seq ∧ t.txq = s.txq := by
  rcases step_next ht with ⟨-, rfl⟩ | ⟨ts, hts, hhost⟩ | ⟨ts, -, rfl⟩ | ⟨ts, hts, -⟩
  · exact ⟨hhalted, rfl, rfl⟩
  · rw [step_host hts] at ht
    exact ⟨hhost.halted.trans hhalted, hhost.seq, hostTurn_txq_of_halted (s := { s with turns := ts }) hhalted ht⟩
  · rw [sequencerTurn_of_halted (s := { s with turns := ts }) hhalted]
    exact ⟨hhalted, rfl, rfl⟩
  · exact absurd (by rw [hts]; rfl) hreset

end perform

/-- Settles O5: the word is performed in the turn that issues it, and every command keeps ILLEGAL in its frame. -/
theorem illegalCommandSetsStickyBit : Obligations.IllegalCommandSetsStickyBit := by
  refine ⟨fun s c rest ts hts hidle htodo hrun hill => ?_, fun i s t ht => (exec_framed i s t ht).illegal⟩
  have hperform := perform_of_illegalWord (s := { s with turns := ts }.issue c rest) hrun hill
  rw [step_host hts, hostTurn_idle_cons (s := { s with turns := ts }) hidle htodo]
  exact hperform

/-- Settles O6, clause by clause; the third is the response of O54 with HALTED set. -/
theorem haltedBlockOnlyAnswersStatus : Obligations.HaltedBlockOnlyAnswersStatus := by
  refine ⟨fun i s hhalted hne => exec_of_halted hne hhalted, fun s e hhalted hdec => ?_, fun s hhalted => ?_,
    fun s => sequencerTurn_of_halted, fun s t => step_of_halted⟩
  · rw [perform_of_error hdec, rejectWord_of_halted hhalted]
    rfl
  · simp [exec_sysStatus, hhalted, State.respond]

/-! ### Without contract commands -/

/-- No command on the port or still to issue has a host contract (R402). -/
structure ContractFree (s : State) : Prop where
  port : wordHasContract s.cmd = false
  todo : ∀ c ∈ s.todo, wordHasContract c.cmd = false

/-- The outcome is a next state, again without contract commands. -/
def GoesOn (o : Out) : Prop := ∃ t, o = .next t ∧ ContractFree t

section run
variable {s : State}

theorem ContractFree.perform_next (h : ContractFree s) : ∃ t, s.perform = .next t := by
  cases hdec : decode s.cmd with
  | error e => exact ⟨_, perform_of_error hdec⟩
  | ok i =>
    have hport := h.port
    simp only [wordHasContract, hdec] at hport
    rw [perform_of_decode hdec]
    rcases exec_cases i s with hnext | ⟨hcontract, -⟩
    · exact hnext
    · exact absurd hcontract (by simp [hport])

/-- A command leaves its word on the port and the host's list, so it keeps the kind (R90). -/
theorem ContractFree.perform (h : ContractFree s) : GoesOn s.perform := by
  obtain ⟨t, ht⟩ := h.perform_next
  have hframe := perform_framed s t ht
  exact ⟨t, ht, by rw [hframe.cmd]; exact h.port, by rw [hframe.todo]; exact h.todo⟩

theorem ContractFree.issue {c : Command} {rest : List Command} (h : ContractFree s) (htodo : s.todo = c :: rest) :
    ContractFree (s.issue c rest) := by
  obtain ⟨hc, hrest⟩ := List.forall_mem_cons.mp (htodo ▸ h.todo)
  exact ⟨hc, hrest⟩

theorem ContractFree.hostTurn (h : ContractFree s) : GoesOn s.hostTurn := by
  rcases hostTurn_cases s with e | ⟨c, rest, htodo, e⟩ | e <;> rw [e]
  · exact ⟨s, rfl, h⟩
  · exact (h.issue htodo).perform
  · exact h.perform

theorem ContractFree.sequencerTurn (h : ContractFree s) : ContractFree s.sequencerTurn :=
  ⟨by simpa using h.port, by simpa using h.todo⟩

/-- The word 0 that a reset leaves on the port is OSC.TICK's, which has no contract (log 3). -/
theorem ContractFree.resetBlock (h : ContractFree s) : ContractFree s.resetBlock :=
  ⟨show wordHasContract 0 = false by decide, h.todo⟩

theorem ContractFree.step (h : ContractFree s) : GoesOn (step s) := by
  have hrest (ts : List Turn) : ContractFree { s with turns := ts } := ⟨h.port, h.todo⟩
  unfold Machine.step
  split
  · exact ⟨s, rfl, h⟩
  · exact (hrest _).hostTurn
  · exact ⟨_, rfl, (hrest _).sequencerTurn⟩
  · exact ⟨_, rfl, (hrest _).resetBlock⟩

theorem safeFor_succ {k : Nat} {t : State} (hstep : step s = .next t) (h : SafeFor k t) : SafeFor (k + 1) s := by
  obtain ⟨u, hu⟩ := h
  refine ⟨u, ?_⟩
  have hstep' : core.step s = .next t := hstep
  simp only [Host.Core.run, hstep']
  exact hu

theorem ContractFree.safeFor (h : ContractFree s) (k : Nat) : SafeFor k s := by
  induction k generalizing s with
  | zero => exact ⟨s, rfl⟩
  | succ k ih =>
    obtain ⟨t, hstep, ht⟩ := h.step
    exact safeFor_succ hstep (ih ht)

end run

/-- Settles O59: one case per turn, the host's by how a command can end and by its frame. -/
theorem contractFreeStepGoesOn : Obligations.ContractFreeStepGoesOn := fun s hport htodo => by
  obtain ⟨t, hstep, ht⟩ := ContractFree.step ⟨hport, htodo⟩
  exact ⟨t, hstep, ht.port, ht.todo⟩

/-- Settles O8, by induction on the run with the step of O59. -/
theorem runsWithoutContractCommandsGoOn : Obligations.RunsWithoutContractCommandsGoOn := fun k _ hport htodo =>
  ContractFree.safeFor ⟨hport, htodo⟩ k

end Sys2Proof.Machine
end

section
/-! Reset and the configuration check (70_reset_and_hazards.md; O10, O56, O57). The chain of R451 is the search for the
first failed check in a list, and each entry of the list is the failure of one check in R451's words. -/

namespace Sys2Proof

/-! ### The configuration check (R451) -/

/-- Which of R451's ten checks fail, in the order of their codes. -/
def Config.failures (c : Config) : List Bool :=
  [!c.rateLegal, !c.widthLegal, !c.i2sPinsAdjacent, !c.keypadPinsDistinct, !c.mixerLegal, !c.seqAvailable,
    !c.sineLegal, !decide (1 ≤ c.n ∧ c.n ≤ 32), !decide (2 ≤ c.q ∧ c.q ≤ 255), !c.restLegal]

/-- The number of the first failure when the first entry has number `k`, and 0 when there is none. -/
def firstFailure (k : Nat) : List Bool → Nat
  | [] => 0
  | b :: bs => if b then k else firstFailure (k + 1) bs

theorem firstFailure_eq (k : Nat) (bad : List Bool) :
    firstFailure k bad = if bad.all (!·) then 0 else bad.findIdx id + k := by
  induction bad generalizing k with
  | nil => rfl
  | cons b bs ih =>
    cases b with
    | true => simp [firstFailure, List.findIdx_cons]
    | false => simp [firstFailure, List.findIdx_cons, ih, Nat.add_assoc, Nat.add_comm k 1]

/-- The configuration code is the number of the first failed check. -/
theorem Config.errorCode_toNat (c : Config) : c.errorCode.toNat = firstFailure 1 c.failures := by
  simp only [Config.errorCode, apply_ite BitVec.toNat]
  rfl

theorem Config.mixerLegal_eq_false_iff (c : Config) :
    c.mixerLegal = false ↔ c.k < 1 ∨ (∃ x ∈ c.levels, x ≤ 0) ∨ ∃ x ∈ c.weights, x = 0 := by
  rw [← Bool.not_eq_true, Config.mixerLegal]
  simp only [Bool.and_eq_true, decide_eq_true_eq, List.all_eq_true, not_and_or, not_forall, not_lt, not_le, ne_eq,
    not_not, exists_prop, or_assoc]

theorem Config.sineLegal_eq_false_iff (c : Config) :
    c.sineLegal = false ↔ (∀ k ∈ List.range 17, 2 ≤ k → c.l ≠ 2 ^ k) ∨ c.sineTable.length ≠ c.l ∨
      ∃ y ∈ c.sineTable, y < c.smin ∨ c.smax < y := by
  rw [← Bool.not_eq_true, Config.sineLegal]
  simp only [Bool.and_eq_true, decide_eq_true_eq, List.all_eq_true, List.any_eq_true, not_and_or, not_forall,
    not_exists, not_le, exists_prop, or_assoc, ne_eq, Config.IsSample]
  simp only [imp_iff_not_or, not_le]

theorem not_eq_decide {b : Bool} {p : Prop} [Decidable p] (h : b = false ↔ p) : (!b) = decide p := by
  rw [← decide_eq_decide.mpr h]
  cases b <;> rfl

/-- R451's conditions say which checks fail. -/
theorem Config.failures_eq (c : Config) :
    c.failures = [decide (c.rate ∉ [8000, 16000, 32000, 44100, 48000, 88200, 96000]),
      decide (c.w ∉ [16, 24, 32]),
      decide (c.pinWs ≠ c.pinBclk + 1 ∨ c.pinData ≠ c.pinBclk + 2),
      decide (¬ [c.rowPins.p0, c.rowPins.p1, c.rowPins.p2, c.rowPins.p3,
        c.colPins.p0, c.colPins.p1, c.colPins.p2, c.colPins.p3].Nodup),
      decide (c.k < 1 ∨ (∃ x ∈ c.levels, x ≤ 0) ∨ ∃ x ∈ c.weights, x = 0),
      !c.seqAvailable,
      decide ((∀ k ∈ List.range 17, 2 ≤ k → c.l ≠ 2 ^ k) ∨ c.sineTable.length ≠ c.l ∨
        ∃ y ∈ c.sineTable, y < c.smin ∨ c.smax < y),
      decide (c.n < 1 ∨ 32 < c.n),
      decide (c.q < 2 ∨ 255 < c.q),
      !c.restLegal] := by
  simp only [Config.failures, List.cons.injEq, and_true, true_and]
  refine ⟨not_eq_decide ?rate, not_eq_decide ?width, not_eq_decide ?i2sPins, not_eq_decide ?keypadPins,
    not_eq_decide c.mixerLegal_eq_false_iff, not_eq_decide c.sineLegal_eq_false_iff, not_eq_decide ?filter,
    not_eq_decide ?queue⟩
  case rate => rw [Config.rateLegal, ← Bool.not_eq_true, List.contains_iff_mem]
  case width => rw [Config.widthLegal, ← Bool.not_eq_true, List.contains_iff_mem]
  case i2sPins => rw [← Bool.not_eq_true, Config.i2sPinsAdjacent, Bool.and_eq_true, decide_eq_true_iff,
    decide_eq_true_iff, not_and_or]
  case keypadPins => exact decide_eq_false_iff_not
  case filter | queue =>
    rw [decide_eq_false_iff_not]
    omega

end Sys2Proof

namespace Sys2Proof.Machine

/-- Settles O56: the code is the number of the first failed check, and R451's conditions are the failures. -/
theorem lowestConfigurationErrorReported : Obligations.LowestConfigurationErrorReported := by
  rintro c bad rfl
  rw [← c.failures_eq]
  refine ⟨?_, bne_iff_ne⟩
  exact c.errorCode_toNat.trans (firstFailure_eq 1 _)

/-! ### Reset (R450) -/

/-- Settles O10, which is the invariant's base case. -/
theorem resetIsWellFormed : Obligations.ResetIsWellFormed := State.wf_resetWith

theorem step_reset {s : State} {ts : List Turn} (h : s.turns = .reset :: ts) :
    step s = .next { s with turns := ts }.resetBlock := by simp only [step, h]

/-- Settles O57: a reset turn is `State.resetBlock`, whose fields are those of `State.resetWith`. -/
theorem resetSetsEveryField : Obligations.ResetSetsEveryField := fun _ _ hts =>
  ⟨_, step_reset hts, rfl, rfl, rfl, rfl, rfl, rfl, rfl, rfl, rfl, rfl, rfl, rfl, rfl, rfl, rfl, rfl, rfl, rfl, rfl,
    rfl⟩

end Sys2Proof.Machine
end
